-- ==== Sys2Proof/Word.lean ====
section
/-! DEFINITION. The word types of the VZ2410 and their plainest arithmetic: bytes, tags, sequences, Local Time and saturating counters. -/

namespace Sys2Proof

/-- One byte of a line. -/
abbrev Byte := BitVec 8
/-- A channel's tag, 0..4095 (00_scope.md, R203). -/
abbrev Tag := BitVec 12
/-- A cell sequence number, 0..63, wrapping (00_scope.md). -/
abbrev Seq := BitVec 6
/-- A value of Local Time, 48 bits, wrapping (R66). -/
abbrev Lt := BitVec 48
/-- A counter: 32 bits, saturating (R168). -/
abbrev Counter := BitVec 32
/-- A carousel or message version, 0..31, wrapping (R77, R109). -/
abbrev Version := BitVec 5
/-- A 16-bit field: session number, controller mark (R206). -/
abbrev Half := BitVec 16

/-- The limit of every counter (R168). -/
def counterLimit : Nat := 4294967295

/-- An increase of a counter by `n`, cut off at the limit (R168). -/
def Counter.add (c : Counter) (n : Nat) : Counter :=
  if c.toNat + n > counterLimit then BitVec.ofNat 32 counterLimit else c + BitVec.ofNat 32 n

/-- An increase of a counter by 1 (R168). -/
def Counter.inc (c : Counter) : Counter := Counter.add c 1

/-- The big-endian bytes, `n` of them, of a number (00_scope.md, Byte order). -/
def beBytes : Nat → Nat → List Byte
  | 0, _ => []
  | n + 1, v => BitVec.ofNat 8 (v / 256 ^ n) :: beBytes n v

/-- The number that big-endian bytes carry (00_scope.md, Byte order). -/
def beVal (bs : List Byte) : Nat := bs.foldl (fun a b => a * 256 + b.toNat) 0

/-- The byte of a flag: 1 set, 0 clear (R206). -/
def flagByte (b : Bool) : Byte := if b then 1 else 0

end Sys2Proof
end

