-- ==== Sys2Proof/Syntax.lean ====
section
/-! DEFINITION. The commands: one constructor per row of spec/opcode_table.json. A command is one whole step of one block (spec/95_what_each_step_holds.md). -/

namespace Sys2Proof

/-- A counted byte of the input line with its IERR level (R119). -/
structure RxByte where
  data : Byte
  ierr : Bool
deriving DecidableEq, Repr

/-- Six consecutive counted bytes, in their order on the line (R120). -/
structure HeaderSample where
  b0 : RxByte
  b1 : RxByte
  b2 : RxByte
  b3 : RxByte
  b4 : RxByte
  b5 : RxByte
deriving DecidableEq, Repr

/-- The eight condition kinds, in kind order (R161). -/
inductive CondKind where
  | lineUnlocked | headerErrors | mediaCongestion | staleDrops
  | captureLoss | carouselLate | commandDiscard | sequenceGaps
deriving DecidableEq, Repr

/-- The commands, in the table's order. Operands: the bytes the input line brings, with the LT of the
marker byte (log 6); a context, a slot or a condition kind. Every controller command is the Agent's
step on the cell at the head of its command queue (R136), whose payload carries session, sequence,
mark and arguments (R206). -/
inductive Instr where
  | hardReset
  | resetNRelease
  | headerExamination (h : HeaderSample) (markerLt : Lt)
  | cellDelivery (payload : List RxByte)
  | cellClassification
  | mediaAdmission
  | captureHandoff
  | assemblyDeadlineReached (ctx : Fin 8)
  | captureBindingUpdate
  | syncLossCaptureAbandon
  | syncLossResync
  | commitDue
  | slotDecision
  | queueEmptyEvent
  | slotDue (slot : Fin 16)
  | tableCellPlacement
  | conditionEvent (kind : CondKind)
  | lineCauseGone
  | sessionExpiry
  | completionNotice
  | captureReadyNotice
  | conditionNotice
  | warmRestart
  | coldRestart
  | identify
  | openSession
  | closeSession
  | ping
  | status
  | mapPut
  | mapRemove
  | mapClear
  | mapCopy
  | mapDefault
  | mapRead
  | commit
  | commitCancel
  | ctxArm
  | ctxDisarm
  | storeRead
  | storeRelease
  | slotDefine
  | slotWrite
  | slotPublish
  | slotStart
  | slotStop
  | slotClear
  | slotQuery
  | pause
  | resume
  | condRead
  | condAck
  | countRead
  | countClear
  | configSet
  | configGet
  | tagsSet
  | restart
  | trefEdge
  | unknownCommand
deriving DecidableEq, Repr

end Sys2Proof
end

