-- ==== Sys2Proof/Decode.lean ====
section
/-! DEFINITION. The command a table word spells. The rows of spec/opcode_table.json give no bits, so no word spells a command. -/

namespace Sys2Proof

/-- The command that a word of `nbits` bits spells by the table's bits: none, since no row gives bits. -/
def decodeTableWord (_nbits _w : Nat) : Option Instr := none

end Sys2Proof
end

