-- ==== Sys2Proof/Config.lean ====
section
/-! DEFINITION. What the VZ2410 fixes (capacities, ranges, defaults) and the values the manual leaves open (constants without a body). -/

namespace Sys2Proof.Config

/-- Management buffers (R45). -/
def mgmtBuffers : Nat := 8
/-- Table buffers (R45). -/
def tableBuffers : Nat := 24
/-- Media buffers (R45). -/
def mediaBuffers : Nat := 480
/-- Places of the Agent's command queue (R135). -/
def commandPlaces : Nat := 4
/-- Entries a bank may hold (R1). -/
def bankEntries : Nat := 256
/-- Payload bytes of a cell (R203). -/
def payloadBytes : Nat := 122
/-- Bytes of a pending image (R102) and the greatest body length (R77). -/
def bodyBytes : Nat := 2040
/-- Ticks of one timer unit (R67). -/
def timerUnit : Nat := 25000
/-- Consecutive invalid headers that lose the line (R126). -/
def missLimit : Nat := 5
/-- Body bytes one STORE_READ returns at most (R93). -/
def readBytes : Nat := 104
/-- The STORE_READ offset that asks for the description (R188). -/
def descriptionOffset : Nat := 65535

/-- FREE VALUE. R185: the COMMIT reply "says immediate or scheduled"; no table gives the two codes.
The argument is true for a scheduled commit. DESIGN CHOICE (log 14), safe. -/
opaque commitTimingCode : Bool → Byte

/-- FREE VALUE. R180, R207: the MAP_PUT reply's flag "inserted or replaced"; the manual does not say which
of the two is the set flag. True when a set flag means inserted. DESIGN CHOICE (log 15), safe. -/
opaque insertedIsSet : Bool

/-- FREE VALUE. R198, R206: the part that COUNT_READ echoes for a group that ignores it when the payload
ends before the part. DESIGN CHOICE (log 16), safe. -/
opaque missingPart : Byte

/-- FREE VALUE. R208: bytes 10 and 11 of a COMPLETION notice whose presence byte says that there is no
offending input tag. DESIGN CHOICE (log 17), safe. -/
opaque absentOffendingTag : Half

end Sys2Proof.Config
end

