-- ==== Sys2Proof/Machine/State.lean ====
section
/-! DEFINITION. The state of the VZ2410, block by block as 00_scope.md divides it, and its value right after reset. Plain data. -/

namespace Sys2Proof.Machine

/-! ## Cells (R203) -/

/-- The fields of a cell header as the Line Receiver reads them (R203). `len` is the payload length field. -/
structure Header where
  tag : Tag
  u : Bool
  k : Bool
  f : Bool
  seq : Seq
  len : Byte
deriving DecidableEq, Repr

/-- A cell: its header fields and its 122 payload bytes, padding included (R124, R203). -/
structure Cell where
  hdr : Header
  payload : List Byte
deriving DecidableEq, Repr

/-! ## The tag map (01_the_tag_map.md) -/

/-- An entry's action (R2). -/
inductive Action where
  | drop | forward | capture | forwardCapture
deriving DecidableEq, Repr

/-- Numbering of a forwarded channel (R2). -/
inductive Numbering where
  | keep | renumber
deriving DecidableEq, Repr

/-- Damage policy (R2). -/
inductive DamagePolicy where
  | forwardDamaged | dropDamaged
deriving DecidableEq, Repr

/-- Stale policy (R2). -/
inductive StalePolicy where
  | sendStale | dropStale
deriving DecidableEq, Repr

/-- A bank's default action (R1). -/
inductive DefaultAction where
  | drop | pass
deriving DecidableEq, Repr

/-- The two banks (R1). -/
inductive BankId where
  | a | b
deriving DecidableEq, Repr

/-- Tracking mode with the last accepted sequence, which is absent exactly in UNSEEN (R29). -/
inductive TrackMode where
  | unseen
  | tracking (last : Seq)
  | resync (last : Seq)
deriving DecidableEq, Repr

/-- A tracking record (R29). -/
structure Tracking where
  mode : TrackMode
  nextOut : Seq
deriving DecidableEq, Repr

/-- The eight entry counters, in the order of R3. -/
structure EntryCounters where
  matched : Counter
  queued : Counter
  dropDamaged : Counter
  dropCongestion : Counter
  dropPaused : Counter
  dropDuplicate : Counter
  gapCells : Counter
  discontinuities : Counter
deriving DecidableEq, Repr

/-- The fields of an entry that MAP_PUT sets (R2). -/
structure EntryFields where
  inputTag : Tag
  action : Action
  outputTag : Option Tag
  numbering : Numbering
  restamp : Bool
  damage : DamagePolicy
  stale : StalePolicy
  staleLimit : Option Nat
  context : Option (Fin 8)
deriving DecidableEq, Repr

/-- An entry: controller-set fields, tracking record, counters (R2, R3). -/
structure Entry where
  fields : EntryFields
  track : Tracking
  counters : EntryCounters
deriving DecidableEq, Repr

/-- The three bank counters (R4), in the order of R168. -/
structure BankCounters where
  unmappedDropped : Counter
  unmappedForwarded : Counter
  collisionDrops : Counter
deriving DecidableEq, Repr

/-- A bank: entries in ascending input tag, default action, counters (R1, R4). -/
structure Bank where
  entries : List Entry
  default : DefaultAction
  counters : BankCounters
deriving DecidableEq, Repr

/-- A pending scheduled commit: due time and command sequence (R21). -/
structure PendingCommit where
  due : Lt
  cmdSeq : Byte
deriving DecidableEq, Repr

/-- The Map Store (R1, R21). -/
structure MapStore where
  bankA : Bank
  bankB : Bank
  active : BankId
  pendingCommit : Option PendingCommit
deriving DecidableEq, Repr

/-! ## Queues (03_queues_and_the_output_scheduler.md) -/

/-- The two restarts (00_scope.md). -/
inductive RestartKind where
  | warm | cold
deriving DecidableEq, Repr

/-- A media cell with its descriptor (R46). -/
structure MediaCell where
  cell : Cell
  outTag : Tag
  outSeq : Seq
  restamp : Bool
  staleLimit : Nat
  stale : StalePolicy
  arrival : Lt
deriving DecidableEq, Repr

/-- A table cell with its descriptor (R46). -/
structure TableCell where
  cell : Cell
  outTag : Tag
  outSeq : Seq
deriving DecidableEq, Repr

/-- A management cell with its descriptor; the restart mark holds the kind of restart asked for (R46, R157; log 24). -/
structure MgmtCell where
  cell : Cell
  outTag : Tag
  outSeq : Seq
  mark : Option RestartKind
deriving DecidableEq, Repr

/-- The three class queues, heads first (R45, R47). -/
structure Queues where
  mgmt : List MgmtCell
  table : List TableCell
  media : List MediaCell
deriving DecidableEq, Repr

/-- The output counter group, in the order of R62. -/
structure OutCounters where
  managementSent : Counter
  tableSent : Counter
  mediaSent : Counter
  fillerSent : Counter
  staleDropped : Counter
  staleSent : Counter
  shortStamp : Counter
deriving DecidableEq, Repr

/-- The output slot under way: its 128 bytes and the restart mark of the cell it carries (R56, R63). -/
structure OutSlot where
  bytes : List Byte
  mark : Option RestartKind
deriving DecidableEq, Repr

/-- The lines ODATA[7:0] and OSTART at one edge of OCLK (R132, R134). -/
structure OutLines where
  odata : Byte
  ostart : Bool
deriving DecidableEq, Repr

/-- The Output Scheduler: table-share counter, output counters, slot under way, which is none from a hard reset until the first slot
begins (R56, R58, R62, R133). What it drives on the output line is `State.outLines`. -/
structure Scheduler where
  shareCount : Nat
  counters : OutCounters
  outSlot : Option OutSlot
deriving DecidableEq, Repr

/-! ## The Classifier (01, 03) -/

/-- Admission state (R52). -/
inductive Admission where
  | forwarding | pausing | paused
deriving DecidableEq, Repr

/-- What the Line Receiver has handed over and the Classifier and Map Store have not yet taken, in its order:
a delivered cell with its arrival LT (R124), or a sync loss (R126). `captureTook` says that the Capture Engine
has already taken its own report of that loss (log 26). -/
inductive ClassItem where
  | cell (c : Cell) (arrival : Lt)
  | syncLoss (captureTook : Bool)
deriving DecidableEq, Repr

/-- A cell offered for admission: its descriptor, the bank it was classified under and the entry that matched
it, none for a default-passed cell (R48). -/
structure Offer where
  media : MediaCell
  bank : BankId
  entry : Option Tag
deriving DecidableEq, Repr

/-- The Classifier: cells not yet classified, admission state, cells awaiting admission, queue-empty reports not
yet taken (R5, R48, R52, R53; log 5). -/
structure Classifier where
  input : List ClassItem
  admission : Admission
  offered : List Offer
  queueEmpties : Nat
deriving DecidableEq, Repr

/-! ## The Capture Engine (05_table_capture.md) -/

/-- Version mode of a filter (R79). -/
inductive VersionMode where
  | any | changed
deriving DecidableEq, Repr

/-- A capture filter: a type, or none for ANY, and a version mode (R79). -/
structure Filter where
  type : Option Byte
  mode : VersionMode
deriving DecidableEq, Repr

/-- Abandonment reasons (R86). -/
inductive LossReason where
  | gap | damage | format | length | crc | timeout | unbound | line | rearmed
deriving DecidableEq, Repr

/-- A partial message (R79). The total is 8 + body length; the bytes held are the length of `held`. -/
structure Partial where
  source : Tag
  type : Byte
  version : Version
  bodyLen : Nat
  held : List Byte
  firstArrival : Lt
  deadline : Lt
deriving DecidableEq, Repr

/-- Context state; a partial message is held exactly in ASSEMBLING (R79). -/
inductive ContextState where
  | idle
  | armed
  | assembling (p : Partial)
deriving DecidableEq, Repr

/-- A context's four counters, in the order of R95. -/
structure ContextCounters where
  delivered : Counter
  abandoned : Counter
  overruns : Counter
  repeats : Counter
deriving DecidableEq, Repr

/-- A capture context (R79). -/
structure Context where
  state : ContextState
  filter : Option Filter
  lastVersion : Option Version
  binding : Option Tag
  lastLoss : Option (LossReason × Lt)
  counters : ContextCounters
deriving DecidableEq, Repr

/-- A FILLED record of the capture store (R90, R91, R92). -/
structure Record where
  context : Fin 8
  source : Tag
  type : Byte
  version : Version
  body : List Byte
  firstArrival : Lt
  completion : Lt
  noticeOwed : Bool
deriving DecidableEq, Repr

/-- A cell handed to capture (R78). -/
structure Handoff where
  context : Fin 8
  cell : Cell
  source : Tag
  arrival : Lt
  gap : Bool
deriving DecidableEq, Repr

/-- What the Classifier and the Map Store have handed to the Capture Engine and it has not yet taken, in its order. -/
inductive CaptureItem where
  | handoff (h : Handoff)
  | bindings (b : Vector (Option Tag) 8)
  | syncLoss
deriving DecidableEq, Repr

/-- The Capture Engine: contexts, store (none is FREE), filing list, hand-offs not yet taken (R79, R90, R91). -/
structure Capture where
  contexts : Vector Context 8
  store : Vector (Option Record) 4
  filing : List (Fin 4)
  input : List CaptureItem
deriving DecidableEq, Repr

/-! ## The Carousel Engine (06_the_carousel.md) -/

/-- A pending image's bytes: (offset, byte) pairs, offsets strictly rising, no pair equal to what an unlisted
offset reads as. -/
abbrev Memory := List Host.Cell

/-- What an offset of a pending image that has not been written reads as (R102: "hold 0x00"). -/
def Memory.unlisted : Byte := 0x00

/-- The canonical form of a `Memory`. -/
def Memory.wf : Memory → Bool
  | [] => true
  | [c] => c.2 != Memory.unlisted
  | c :: d :: m => (c.2 != Memory.unlisted) && decide (c.1 < d.1) && Memory.wf (d :: m)

/-- The states of a slot that is not EMPTY (R99). -/
inductive SlotRun where
  | defined | running | stopping
deriving DecidableEq, Repr

/-- A carousel slot that is not EMPTY (R99, R116). -/
structure SlotData where
  run : SlotRun
  outTag : Tag
  type : Byte
  version : Version
  interval : Nat
  current : Option (List Byte)
  pendingBytes : Memory
  pendingLen : Nat
  published : Bool
  bump : Bool
  nextDue : Lt
  outSeq : Seq
  emissions : Counter
  lateEvents : Counter
deriving DecidableEq, Repr

/-- The emission in progress: its slot, the framed message, the cells placed (R99, R109, R112). -/
structure Emission where
  slot : Fin 16
  message : List Byte
  placed : Nat
deriving DecidableEq, Repr

/-- The Carousel Engine: slots (none is EMPTY), due list in the order of choice, emission in progress (R99, R107, R108). -/
structure Carousel where
  slots : Vector (Option SlotData) 16
  due : List (Fin 16)
  emission : Option Emission
deriving DecidableEq, Repr

/-! ## The Line Receiver (07_line_reception_and_delineation.md) -/

/-- Delineation state with its count (R121 to R126). -/
inductive Delineation where
  | hunt
  | confirm (count : Nat)
  | locked (misses : Nat)
deriving DecidableEq, Repr

/-- A cell in reception: its header as received, whether IERR was high on a header byte, its arrival LT (R124, R128, R69). -/
structure RxCell where
  hdr : Header
  ierr : Bool
  arrival : Lt
deriving DecidableEq, Repr

/-- The input counter group, in the order of R129. -/
structure InCounters where
  cellsDelivered : Counter
  fillerReceived : Counter
  headerErrors : Counter
  syncLosses : Counter
  damagedCells : Counter
deriving DecidableEq, Repr

/-- The Line Receiver: delineation record (state, count, position next examined), the LT at the first byte of the position last
examined, or of the reset or restart since (R69), how many ticks ago that byte was, cell in reception, counters (R121, R129).
The ticks are the model's own count, which does not wrap: IVAL may stay low for any time (R119; log 6).
Positions count counted bytes from the last reset or restart. DESIGN CHOICE (log 23), safe. -/
structure LineReceiver where
  delin : Delineation
  nextPos : Nat
  examinedLt : Lt
  examinedAgo : Nat
  receiving : Option RxCell
  counters : InCounters
deriving DecidableEq, Repr

/-! ## The Management Agent (08, 09) -/

/-- Agent state (R136). -/
inductive AgentMode where
  | serving | restarting
deriving DecidableEq, Repr

/-- Reply status (R137, R209). -/
inductive Status where
  | done | accepted | refused
deriving DecidableEq, Repr

/-- Refusal reason (R142, R209). -/
inductive Reason where
  | none | noSession | notOwner | outOfOrder | unknownCommand | badArgument
  | busy | wrongState | notFound | mapFull | conflict
deriving DecidableEq, Repr

/-- What a command is answered: status, reason and result bytes (R137). -/
structure Answer where
  status : Status
  reason : Reason
  result : List Byte
deriving DecidableEq, Repr

/-- A reply, as the reply cache keeps it (R145). -/
structure Reply where
  session : Half
  seq : Byte
  code : Byte
  mark : Half
  answer : Answer
deriving DecidableEq, Repr

/-- An open session: number N, expected sequence E, deadline, and the reply cache, which holds a reply exactly
while the session is OPEN (R138, R140, R145). -/
structure Session where
  number : Half
  expected : Byte
  deadline : Lt
  cache : Reply
deriving DecidableEq, Repr

/-- Kinds of long operation (R148). -/
inductive OpKind where
  | commit | pause
deriving DecidableEq, Repr

/-- Outcome of a long operation; FAILED carries the first offending input tag (R150). -/
inductive OpOutcome where
  | done | cancelled | failed (tag : Tag) | aborted
deriving DecidableEq, Repr

/-- The long-operation record (R148). -/
inductive LongOp where
  | none
  | inFlight (kind : OpKind) (seq : Byte)
  | ended (kind : OpKind) (seq : Byte) (outcome : OpOutcome)
deriving DecidableEq, Repr

/-- The four configuration items (R171). -/
structure Settings where
  staleLimit : Nat
  tableShare : Nat
  sessionTimeout : Nat
  assemblyTimeout : Nat
deriving DecidableEq, Repr

/-- Condition state (R161). -/
inductive CondState where
  | clear | raised | acknowledged
deriving DecidableEq, Repr

/-- An entry of the condition table (R161). -/
structure CondEntry where
  state : CondState
  count : Counter
  firstLt : Option Lt
  noticeOwed : Bool
deriving DecidableEq, Repr

/-- The agent counter group, in the order of R160. -/
structure AgentCounters where
  executed : Counter
  refused : Counter
  discarded : Counter
  repeats : Counter
deriving DecidableEq, Repr

/-- The Management Agent (R135 to R161). -/
structure Agent where
  mode : AgentMode
  session : Option Session
  cmdQueue : List Cell
  longOp : LongOp
  noticeNo : Byte
  replySeq : Seq
  cmdTag : Tag
  replyTag : Tag
  settings : Settings
  conds : Vector CondEntry 8
  counters : AgentCounters
deriving DecidableEq, Repr

/-- A report on its way to the condition table: an event of a kind, or that the LINE_UNLOCKED cause has gone (R161). -/
inductive Report where
  | event (kind : CondKind)
  | causeGone
deriving DecidableEq, Repr

/-! ## The whole part -/

/-- The state of the VZ2410. `pending` is the model's own queue of commands, first in, first out. -/
structure State where
  resetLow : Bool
  lt : Lt
  line : LineReceiver
  classifier : Classifier
  map : MapStore
  capture : Capture
  carousel : Carousel
  queues : Queues
  sched : Scheduler
  agent : Agent
  reports : List Report
  pending : List Instr
deriving DecidableEq, Repr

/-- Faults. No command of this block stops the machine with a fault, so there is none to raise. -/
inductive Fault where
deriving DecidableEq, Repr

/-- Refusals. -/
inductive Refusal where
  /-- Raised by an arm of `exec` whose command has no meaning yet, and by nothing else. Safe: the run stops. -/
  | notModelled (mnemonic : String)
deriving DecidableEq, Repr

/-! ## Reset -/

/-- A bank after a hard reset (R27). -/
def Bank.reset : Bank := ⟨[], .drop, ⟨0, 0, 0⟩⟩

/-- The Map Store after a hard reset (R27). -/
def MapStore.reset : MapStore := ⟨Bank.reset, Bank.reset, .a, none⟩

/-- A context after a hard reset (R97). -/
def Context.reset : Context := ⟨.idle, none, none, none, none, ⟨0, 0, 0, 0⟩⟩

/-- The Capture Engine after a hard reset (R97). -/
def Capture.reset : Capture := ⟨Vector.replicate 8 Context.reset, Vector.replicate 4 none, [], []⟩

/-- The Carousel Engine after a hard reset (R117). -/
def Carousel.reset : Carousel := ⟨Vector.replicate 16 none, [], none⟩

/-- The Line Receiver after a hard reset (R130). -/
def LineReceiver.reset : LineReceiver := ⟨.hunt, 0, 0, 0, none, ⟨0, 0, 0, 0, 0⟩⟩

/-- The Classifier after a hard reset (R64; in flight nothing, log 10). -/
def Classifier.reset : Classifier := ⟨[], .forwarding, [], 0⟩

/-- The queues after a hard reset (R64). -/
def Queues.reset : Queues := ⟨[], [], []⟩

/-- The configuration defaults (R159, R171). -/
def Settings.reset : Settings := ⟨10000, 8, 10000, 500⟩

/-- The Scheduler after a hard reset: the counter stands at the table share, 8 (R64). -/
def Scheduler.reset : Scheduler := ⟨8, ⟨0, 0, 0, 0, 0, 0, 0⟩, none⟩

/-- A condition after any reset or restart (R167). -/
def CondEntry.reset : CondEntry := ⟨.clear, 0, none, false⟩

/-- The Agent after a hard reset (R159). -/
def Agent.reset : Agent :=
  ⟨.serving, none, [], .none, 0, 0, 4064, 4065, Settings.reset, Vector.replicate 8 CondEntry.reset, ⟨0, 0, 0, 0⟩⟩

/-- The part right after a hard reset, RESET_N released. That RESET_N is no longer low is a DESIGN CHOICE (log 3),
unsafe; every other field is what the manual gives for a hard reset. -/
def State.reset : State :=
  ⟨false, 0, LineReceiver.reset, Classifier.reset, MapStore.reset, Capture.reset, Carousel.reset,
   Queues.reset, Scheduler.reset, Agent.reset, [], []⟩

end Sys2Proof.Machine
end

