-- ==== Sys2Proof/Machine/Ops.lean ====
section
/-! DEFINITION. The named operations the meanings share: pending-image bytes, checks, cell building, deadlines, and access to banks, entries, contexts, records and slots. -/

namespace Sys2Proof.Machine

/-! ## Bytes of a pending image (R102) -/

/-- The byte at an offset. -/
def Memory.read (m : Memory) (a : Nat) : Byte :=
  match m with
  | [] => Memory.unlisted
  | c :: m => if c.1 = a then c.2 else Memory.read m a

/-- A byte put before every pair of a higher offset, or left out where it equals what an unlisted offset reads as. -/
def Memory.cons (a : Nat) (v : Byte) (m : Memory) : Memory :=
  if v = Memory.unlisted then m else (a, v) :: m

/-- A write of one byte, keeping the canonical form. -/
def Memory.write (m : Memory) (a : Nat) (v : Byte) : Memory :=
  match m with
  | [] => Memory.cons a v []
  | c :: m =>
    if c.1 < a then c :: Memory.write m a v
    else if c.1 = a then Memory.cons a v m
    else Memory.cons a v (c :: m)

/-- A write of consecutive bytes from an offset (R102). -/
def Memory.writeAll (m : Memory) (a : Nat) : List Byte → Memory
  | [] => m
  | v :: vs => Memory.writeAll (Memory.write m a v) (a + 1) vs

/-- The first `n` bytes from an offset (R109). -/
def Memory.readAll (m : Memory) (a : Nat) : Nat → List Byte
  | 0 => []
  | n + 1 => Memory.read m a :: Memory.readAll m (a + 1) n

/-! ## Fixed tables -/

/-- The table with one member replaced. -/
def setAt {α : Type} {n : Nat} (v : Vector α n) (i : Fin n) (x : α) : Vector α n := v.set i x i.2

/-- The table with one function applied to every member. -/
def mapAll {α β : Type} {n : Nat} (f : α → β) (v : Vector α n) : Vector β n :=
  ⟨⟨v.toList.map f⟩, by simp⟩

/-- The eight context numbers in order (R79). -/
def contextNumbers : List (Fin 8) := [0, 1, 2, 3, 4, 5, 6, 7]

/-- The four record numbers in order (R91). -/
def recordNumbers : List (Fin 4) := [0, 1, 2, 3]

/-- The sixteen slot numbers in order (R99). -/
def slotNumbers : List (Fin 16) := [0, 1, 2, 3, 4, 5, 6, 7, 8, 9, 10, 11, 12, 13, 14, 15]

/-! ## The two checks (R204, R205) -/

/-- One shift of the CRC-8 register (R204). -/
def crc8Shift (r : Byte) : Byte := if r.msb then (r <<< 1) ^^^ 0x31#8 else r <<< 1

/-- One byte worked into the CRC-8 register (R204). -/
def crc8Byte (r b : Byte) : Byte := Nat.repeat crc8Shift 8 (r ^^^ b)

/-- The header check: CRC-8, generator 0x31, initial value 0x00 (R204). -/
def crc8 (bs : List Byte) : Byte := bs.foldl crc8Byte 0

/-- One shift of the CRC-32 register (R205). -/
def crc32Shift (r : BitVec 32) : BitVec 32 := if r.msb then (r <<< 1) ^^^ 0x04C11DB7#32 else r <<< 1

/-- One byte worked into the top eight bits of the CRC-32 register (R205). -/
def crc32Byte (r : BitVec 32) (b : Byte) : BitVec 32 :=
  Nat.repeat crc32Shift 8 (r ^^^ (b.zeroExtend 32 <<< 24))

/-- The message check: CRC-32, generator 0x04C11DB7, initial value all ones, complemented (R205). -/
def crc32 (bs : List Byte) : BitVec 32 := ~~~ (bs.foldl crc32Byte 0xFFFFFFFF#32)

/-! ## Cells on the wire (R203) -/

/-- Header bytes 0 to 4 (R203). -/
def headerBody (h : Header) : List Byte :=
  [0xD2, h.tag.extractLsb' 4 8,
   h.tag.extractLsb' 0 4 ++ BitVec.ofBool h.u ++ BitVec.ofBool h.k ++ BitVec.ofBool h.f ++ 0#1,
   h.seq.zeroExtend 8, h.len]

/-- The six header bytes, with a fresh header check (R60, R203). -/
def headerBytes (h : Header) : List Byte := headerBody h ++ [crc8 (headerBody h)]

/-- The header that six bytes carry, none where they form an invalid header (R120, R203). -/
def readHeader (b0 b1 b2 b3 b4 b5 : Byte) : Option Header :=
  if b0 = 0xD2 ∧ b5 = crc8 [b0, b1, b2, b3, b4] ∧ b2.getLsbD 0 = false ∧ b3.extractLsb' 6 2 = 0#2
      ∧ b4.toNat ≤ Config.payloadBytes then
    some ⟨b1 ++ b2.extractLsb' 4 4, b2.getLsbD 3, b2.getLsbD 2, b2.getLsbD 1, b3.extractLsb' 0 6, b4⟩
  else none

/-- The 128 bytes a cell is sent as, under a descriptor's output tag and sequence (R60, R132, R203). -/
def cellBytes (c : Cell) (tag : Tag) (seq : Seq) : List Byte :=
  headerBytes { c.hdr with tag := tag, seq := seq } ++ c.payload

/-- A cell the part builds itself: K and F clear, padding 0xFF (R111, R137, R203). -/
def buildCell (tag : Tag) (seq : Seq) (u : Bool) (body : List Byte) : Cell :=
  ⟨⟨tag, u, false, false, seq, BitVec.ofNat 8 body.length⟩,
   body ++ List.replicate (Config.payloadBytes - body.length) 0xFF⟩

/-- The filler cell (R61). -/
def fillerCell : Cell := buildCell 0 0 false []

/-! ## Local Time (R20, R67) -/

/-- A due time or deadline counts as reached: the formula of R20, which also decides the one time 2^47 ticks ahead (R20, R67; log 28). -/
def reached (lt due : Lt) : Bool := decide ((lt - due).toNat < 2 ^ 47)

/-- The deadline of an interval of `units` timer units that begins at `lt` (R67). -/
def deadlineAfter (lt : Lt) (units : Nat) : Lt := lt + BitVec.ofNat 48 (Config.timerUnit * units)

/-- The time left until a deadline, in timer units rounded up (R139, R174). -/
def timeLeft (lt deadline : Lt) : Nat := ((deadline - lt).toNat + (Config.timerUnit - 1)) / Config.timerUnit

/-! ## Entries (R2, R3) -/

/-- Counters all zero (R13). -/
def EntryCounters.zero : EntryCounters := ⟨0, 0, 0, 0, 0, 0, 0, 0⟩

/-- A fresh tracking record (R29). -/
def Tracking.fresh : Tracking := ⟨.unseen, 0⟩

/-- An entry as MAP_PUT and MAP_COPY create it (R13, R16). -/
def Entry.fresh (f : EntryFields) : Entry := ⟨f, Tracking.fresh, EntryCounters.zero⟩

/-- A forwarding entry (R2). -/
def EntryFields.forwards (f : EntryFields) : Bool :=
  match f.action with
  | .forward | .forwardCapture => true
  | .drop | .capture => false

/-- A capturing entry (R2). -/
def EntryFields.captures (f : EntryFields) : Bool :=
  match f.action with
  | .capture | .forwardCapture => true
  | .drop | .forward => false

/-- The effective output tag (R2). -/
def EntryFields.effectiveTag (f : EntryFields) : Tag := f.outputTag.getD f.inputTag

/-! ## Banks (R1) -/

/-- The other bank. -/
def BankId.other : BankId → BankId
  | .a => .b
  | .b => .a

/-- A bank by its name. -/
def MapStore.bank (m : MapStore) : BankId → Bank
  | .a => m.bankA
  | .b => m.bankB

/-- The store with one bank replaced. -/
def MapStore.setBank (m : MapStore) (i : BankId) (b : Bank) : MapStore :=
  match i with
  | .a => { m with bankA := b }
  | .b => { m with bankB := b }

/-- The shadow bank's name (R1). -/
def MapStore.shadowId (m : MapStore) : BankId := m.active.other

/-- The active bank (R1). -/
def MapStore.activeBank (m : MapStore) : Bank := m.bank m.active

/-- The shadow bank (R1). -/
def MapStore.shadowBank (m : MapStore) : Bank := m.bank m.shadowId

/-- The entry of an input tag (R5). -/
def Bank.find (b : Bank) (t : Tag) : Option Entry := b.entries.find? (fun e => e.fields.inputTag = t)

/-- The bank with the entry of an input tag changed (nothing changes where it holds none, log 27). -/
def Bank.modify (b : Bank) (t : Tag) (f : Entry → Entry) : Bank :=
  { b with entries := b.entries.map (fun e => if e.fields.inputTag = t then f e else e) }

/-- The bank with every entry changed. -/
def Bank.mapEntries (b : Bank) (f : Entry → Entry) : Bank := { b with entries := b.entries.map f }

/-- An entry put at its place in ascending input tag, replacing one of the same tag (R13). -/
def insertEntry (e : Entry) : List Entry → List Entry
  | [] => [e]
  | x :: xs =>
    if e.fields.inputTag < x.fields.inputTag then e :: x :: xs
    else if e.fields.inputTag = x.fields.inputTag then e :: xs
    else x :: insertEntry e xs

/-- The input tags bound to each context under a bank (R22): the entry naming the context, or none. -/
def Bank.bindings (b : Bank) : Vector (Option Tag) 8 :=
  ⟨⟨contextNumbers.map fun i =>
    (b.entries.find? fun e => e.fields.captures && e.fields.context == some i).map fun e => e.fields.inputTag⟩, rfl⟩

/-! ## Assigned output tags (R8, R9, R100) -/

/-- A slot in RUNNING or STOPPING assigns its tag (R99, R100). -/
def SlotRun.assigns : SlotRun → Bool
  | .defined => false
  | .running | .stopping => true

/-- The number and tag of each slot that assigns one (R100). -/
def Carousel.assigned (c : Carousel) : List (Fin 16 × Tag) :=
  slotNumbers.filterMap fun i =>
    match c.slots[i] with
    | some d => if d.run.assigns then some (i, d.outTag) else none
    | none => none

/-- The first slot in RUNNING or STOPPING with an output tag (R18, R104, R155). -/
def Carousel.holder (c : Carousel) (t : Tag) : Option (Fin 16) :=
  (c.assigned.find? fun p => p.2 = t).map Prod.fst

/-- The first forwarding entry of a bank with an effective output tag (R104, R155). -/
def Bank.forwarder (b : Bank) (t : Tag) : Option Entry :=
  b.entries.find? fun e => e.fields.forwards && e.fields.effectiveTag == t

/-! ## Parts of the state -/

/-- A report made to the condition table (R161). -/
def State.report (s : State) (r : Report) : State := { s with reports := s.reports ++ [r] }

/-- The state with one bank replaced. -/
def State.setBank (s : State) (i : BankId) (b : Bank) : State := { s with map := s.map.setBank i b }

/-- The state with one context replaced. -/
def State.setContext (s : State) (i : Fin 8) (c : Context) : State :=
  { s with capture := { s.capture with contexts := setAt s.capture.contexts i c } }

/-- The state with one slot replaced. -/
def State.setSlot (s : State) (i : Fin 16) (d : Option SlotData) : State :=
  { s with carousel := { s.carousel with slots := setAt s.carousel.slots i d } }

end Sys2Proof.Machine
end

