-- ==== Sys2Proof/Machine/Flags.lean ====
section
/-! DEFINITION. The flags of the part: the condition table (R161 to R167), the notice-owed flags of conditions and records (R92, R165), and the end of a long operation (R148). -/

namespace Sys2Proof.Machine

/-- The place of a kind in the kind order, from 0 (R161). -/
def kindIndex : CondKind → Fin 8
  | .lineUnlocked => 0
  | .headerErrors => 1
  | .mediaCongestion => 2
  | .staleDrops => 3
  | .captureLoss => 4
  | .carouselLate => 5
  | .commandDiscard => 6
  | .sequenceGaps => 7

/-- The kinds in kind order (R161). -/
def condKinds : List CondKind :=
  [.lineUnlocked, .headerErrors, .mediaCongestion, .staleDrops, .captureLoss, .carouselLate, .commandDiscard, .sequenceGaps]

/-- The blocks that report to the condition table (R161). -/
inductive Reporter where
  | line | classifier | scheduler | capture | carousel | agent
deriving DecidableEq, Repr

/-- The block that feeds a kind (R161). -/
def reporterOf : CondKind → Reporter
  | .lineUnlocked | .headerErrors => .line
  | .mediaCongestion | .sequenceGaps => .classifier
  | .staleDrops => .scheduler
  | .captureLoss => .capture
  | .carouselLate => .carousel
  | .commandDiscard => .agent

/-- The block that made a report (R161). -/
def Report.reporter : Report → Reporter
  | .event k => reporterOf k
  | .causeGone => .line

/-- The reports without a given one, if it is the earliest of its block: reports of one block are taken in the order
made, those of different blocks in any order (R161). -/
def takeReport (r : Report) : List Report → Option (List Report)
  | [] => none
  | x :: xs =>
    if x.reporter = r.reporter then (if x = r then some xs else none)
    else (takeReport r xs).map (x :: ·)

/-- A condition's entry. -/
def Agent.cond (a : Agent) (k : CondKind) : CondEntry := a.conds[kindIndex k]

/-- The Agent with one condition's entry replaced. -/
def Agent.setCond (a : Agent) (k : CondKind) (e : CondEntry) : Agent := { a with conds := setAt a.conds (kindIndex k) e }

/-- An event taken by its entry (R162). -/
def CondEntry.takeEvent (e : CondEntry) (lt : Lt) (sessionOpen : Bool) : CondEntry :=
  match e.state with
  | .clear => ⟨.raised, 1, some lt, sessionOpen⟩
  | .raised | .acknowledged => { e with count := Counter.inc e.count }

/-- The cause-gone report taken by LINE_UNLOCKED (R164). -/
def CondEntry.takeCauseGone (e : CondEntry) : CondEntry :=
  match e.state with
  | .raised => { e with state := .clear, noticeOwed := false }
  | .acknowledged => { e with state := .clear }
  | .clear => e

/-- COND_ACK taken by an entry; LINE_UNLOCKED is the level condition (R161, R163). -/
def CondEntry.acknowledge (e : CondEntry) (k : CondKind) : CondEntry :=
  match e.state with
  | .raised =>
    if k = .lineUnlocked then { e with state := .acknowledged, noticeOwed := false }
    else { e with state := .clear, noticeOwed := false }
  | .acknowledged | .clear => e

/-- The entry owes a notice when a session opens exactly if it is RAISED (R138, R165). -/
def CondEntry.openOwed (e : CondEntry) : CondEntry :=
  { e with noticeOwed := decide (e.state = .raised) }

/-- The entry with its owed flag cleared (R153, R165). -/
def CondEntry.clearOwed (e : CondEntry) : CondEntry := { e with noticeOwed := false }

/-- A record with its notice-owed flag set to a value; a FREE record has none (R92). -/
def setOwed (b : Bool) (r : Option Record) : Option Record := r.map fun x => { x with noticeOwed := b }

/-- The end of an operation of a kind, recorded when the record is IN_FLIGHT for it (R148). -/
def LongOp.finish (l : LongOp) (k : OpKind) (o : OpOutcome) : LongOp :=
  match l with
  | .inFlight k' q => if k' = k then .ended k' q o else l
  | .none | .ended _ _ _ => l

/-- The long operation of a kind reported as ended (R148). -/
def State.finishOp (s : State) (k : OpKind) (o : OpOutcome) : State :=
  { s with agent := { s.agent with longOp := s.agent.longOp.finish k o } }

/-- The session's end (R154): CLOSED and the cache with it, no long operation, no owed notice, no pending commit (R26, R96). -/
def State.endSession (s : State) : State :=
  { s with
    agent := { s.agent with session := none, longOp := .none, conds := mapAll CondEntry.clearOwed s.agent.conds }
    capture := { s.capture with store := mapAll (setOwed false) s.capture.store }
    map := { s.map with pendingCommit := none } }

end Sys2Proof.Machine
end

