-- ==== Sys2Proof/Machine/Operands.lean ====
section
/-! DEFINITION. Operand forms: the command cell (R206), every argument's reader with its checks (R173), the codes (R209) and the layouts of results (R207). -/

namespace Sys2Proof.Machine

/-! ## Codes (R209) -/

/-- Status codes (R209). -/
def Status.toByte : Status → Byte
  | .done => 1
  | .accepted => 2
  | .refused => 3

/-- Reason codes (R209). -/
def Reason.toByte : Reason → Byte
  | .none => 0
  | .noSession => 1
  | .notOwner => 2
  | .outOfOrder => 3
  | .unknownCommand => 4
  | .badArgument => 5
  | .busy => 6
  | .wrongState => 7
  | .notFound => 8
  | .mapFull => 9
  | .conflict => 10

/-- Completion outcome codes (R209). -/
def OpOutcome.toByte : OpOutcome → Byte
  | .done => 1
  | .cancelled => 2
  | .failed _ => 3
  | .aborted => 4

/-- Condition kind codes (R209). -/
def condCode : CondKind → Byte
  | .lineUnlocked => 1
  | .headerErrors => 2
  | .mediaCongestion => 3
  | .staleDrops => 4
  | .captureLoss => 5
  | .carouselLate => 6
  | .commandDiscard => 7
  | .sequenceGaps => 8

/-- Condition state codes (R209). -/
def CondState.toByte : CondState → Byte
  | .clear => 0
  | .raised => 1
  | .acknowledged => 2

/-- Abandonment reason codes (R209). -/
def LossReason.toByte : LossReason → Byte
  | .gap => 1
  | .damage => 2
  | .format => 3
  | .length => 4
  | .crc => 5
  | .timeout => 6
  | .unbound => 7
  | .line => 8
  | .rearmed => 9

/-- Action codes (R209). -/
def Action.toByte : Action → Byte
  | .drop => 0
  | .forward => 1
  | .capture => 2
  | .forwardCapture => 3

/-- Default action codes (R209). -/
def DefaultAction.toByte : DefaultAction → Byte
  | .drop => 0
  | .pass => 1

/-- Numbering codes (R209). -/
def Numbering.toByte : Numbering → Byte
  | .keep => 0
  | .renumber => 1

/-- Damage policy codes (R209). -/
def DamagePolicy.toByte : DamagePolicy → Byte
  | .forwardDamaged => 0
  | .dropDamaged => 1

/-- Stale policy codes (R209). -/
def StalePolicy.toByte : StalePolicy → Byte
  | .sendStale => 0
  | .dropStale => 1

/-- Bank codes (R209). -/
def BankId.toByte : BankId → Byte
  | .a => 0
  | .b => 1

/-- Version mode codes (R209). -/
def VersionMode.toByte : VersionMode → Byte
  | .any => 0
  | .changed => 1

/-- Restart kind codes (R209). -/
def RestartKind.toByte : RestartKind → Byte
  | .warm => 1
  | .cold => 2

/-- Tracking mode codes (R209). -/
def TrackMode.toByte : TrackMode → Byte
  | .unseen => 0
  | .tracking _ => 1
  | .resync _ => 2

/-- Context state codes (R209). -/
def ContextState.toByte : ContextState → Byte
  | .idle => 0
  | .armed => 1
  | .assembling _ => 2

/-- Slot state codes; none is EMPTY (R209). -/
def slotStateByte : Option SlotData → Byte
  | none => 0
  | some d =>
    match d.run with
    | .defined => 1
    | .running => 2
    | .stopping => 3

/-- Admission state codes (R209). -/
def Admission.toByte : Admission → Byte
  | .forwarding => 0
  | .pausing => 1
  | .paused => 2

/-- Delineation state codes (R209). -/
def Delineation.toByte : Delineation → Byte
  | .hunt => 0
  | .confirm _ => 1
  | .locked _ => 2

/-- Long-operation kinds are given by the command code (R209). -/
def OpKind.toByte : OpKind → Byte
  | .commit => 0x27
  | .pause => 0x51

/-- Long-operation state codes (R209). -/
def LongOp.stateByte : LongOp → Byte
  | .none => 0
  | .inFlight _ _ => 1
  | .ended _ _ _ => 2

/-- The kind of the record, none in NONE (R148). -/
def LongOp.kind : LongOp → Option OpKind
  | .none => Option.none
  | .inFlight k _ => some k
  | .ended k _ _ => some k

/-- The command sequence of the record, none in NONE (R148). -/
def LongOp.seq : LongOp → Option Byte
  | .none => Option.none
  | .inFlight _ q => some q
  | .ended _ q _ => some q

/-- The outcome of the record, present in ENDED (R148). -/
def LongOp.outcome : LongOp → Option OpOutcome
  | .none => Option.none
  | .inFlight _ _ => Option.none
  | .ended _ _ o => some o

/-- The conflict checks (R209). -/
inductive ConflictCheck where
  | sharedOutputTag | replyTag | carouselTag | commandTag | sharedContext | activeEntry | activeSlot | tagsEqualOrZero
deriving DecidableEq, Repr

/-- Conflict check codes (R209). -/
def ConflictCheck.toByte : ConflictCheck → Byte
  | .sharedOutputTag => 1
  | .replyTag => 2
  | .carouselTag => 3
  | .commandTag => 4
  | .sharedContext => 5
  | .activeEntry => 6
  | .activeSlot => 7
  | .tagsEqualOrZero => 8

/-- The configuration items (R171). -/
inductive SettingItem where
  | staleLimit | tableShare | sessionTimeout | assemblyTimeout
deriving DecidableEq, Repr

/-- The counter groups (R168). -/
inductive CounterGroup where
  | input | output | bankA | bankB | entry | contexts | slots | agent
deriving DecidableEq, Repr

/-- Counter group codes (R209). -/
def CounterGroup.toByte : CounterGroup → Byte
  | .input => 1
  | .output => 2
  | .bankA => 3
  | .bankB => 4
  | .entry => 5
  | .contexts => 6
  | .slots => 7
  | .agent => 8

/-! ## The command cell (R206) -/

/-- A command as its cell carries it: the fixed part and the argument bytes within the payload length (R173, R206). -/
structure Command where
  session : Half
  seq : Byte
  code : Byte
  mark : Half
  args : List Byte
deriving DecidableEq, Repr

/-- A 16-bit field from two bytes (R206). -/
def half (hi lo : Byte) : Half := hi ++ lo

/-- The command of a queued cell; bytes past the payload length are not read (R173, R206). -/
def Command.ofCell (c : Cell) : Command :=
  ⟨half (c.payload.getD 0 0) (c.payload.getD 1 0), c.payload.getD 2 0, c.payload.getD 3 0,
   half (c.payload.getD 4 0) (c.payload.getD 5 0), (c.payload.take c.hdr.len.toNat).drop 6⟩

/-- The codes of the thirty-four commands (R206). -/
def commandCodes : List Byte :=
  [0x11, 0x12, 0x13, 0x14, 0x15, 0x21, 0x22, 0x23, 0x24, 0x25, 0x26, 0x27, 0x28, 0x31, 0x32, 0x33, 0x34,
   0x41, 0x42, 0x43, 0x44, 0x45, 0x46, 0x47, 0x51, 0x52, 0x61, 0x62, 0x63, 0x64, 0x71, 0x72, 0x73, 0x74]

/-! ## Reading arguments (R173, R206) -/

/-- Reads a value from the front of the argument bytes; none where it is missing, out of range or malformed. -/
abbrev Reader (α : Type) := List Byte → Option (α × List Byte)

/-- The argument at a position, counted from 1; a failing argument refuses with its position (R173, R174). -/
def argument {α : Type} (pos : Nat) (r : Reader α) (bs : List Byte) : Except Nat (α × List Byte) :=
  match r bs with
  | some x => .ok x
  | none => .error pos

/-- A constraint between arguments, reported against the later one (R173). -/
def constraint (pos : Nat) (b : Bool) : Except Nat Unit := if b then .ok () else .error pos

/-- `n` bytes (R191). -/
def readBytes (n : Nat) : Reader (List Byte) := fun bs =>
  if n ≤ bs.length then some (bs.take n, bs.drop n) else none

/-- An unsigned number of `n` bytes (R206). -/
def readNat (n : Nat) : Reader Nat := fun bs => (readBytes n bs).map fun p => (beVal p.1, p.2)

/-- A value accepted only where a test on it holds. -/
def readWhere {α β : Type} (r : Reader α) (f : α → Option β) : Reader β := fun bs =>
  match r bs with
  | some (x, rest) => (f x).map (·, rest)
  | none => none

/-- A number within a range, ends included. -/
def readRange (n lo hi : Nat) : Reader Nat := readWhere (readNat n) fun v => if lo ≤ v ∧ v ≤ hi then some v else none

/-- A tag 1..4095 (R206). -/
def readTag : Reader Tag := readWhere (readRange 2 1 4095) fun v => some (BitVec.ofNat 12 v)

/-- A tag 0..4095, as TAGS_SET takes at step 5 (R201). -/
def readTagOrZero : Reader Tag := readWhere (readRange 2 0 4095) fun v => some (BitVec.ofNat 12 v)

/-- A flag: 0 clear, 1 set (R206). -/
def readFlag : Reader Bool := readWhere (readRange 1 0 1) fun v => some (decide (v = 1))

/-- A number below `n` as an index: context, record, slot (R206). -/
def readIndex (n : Nat) : Reader (Fin n) := readWhere (readNat 1) fun v => if h : v < n then some ⟨v, h⟩ else none

/-- An enumerated argument: the value of a table whose code is carried (R209). -/
def readCode {α : Type} (values : List α) (code : α → Byte) : Reader α :=
  readWhere (readNat 1) fun v => values.find? fun x => (code x).toNat = v

/-- An optional argument: presence byte, then the value's width in either case (R173, R206). The value bytes of an
absent argument are not read, but the payload must hold them. DEDUCED (log 19), unsafe. -/
def readOptional {α : Type} (width : Nat) (r : Reader α) : Reader (Option α) := fun bs =>
  match readNat 1 bs with
  | some (0, rest) => (readBytes width rest).map fun p => (none, p.2)
  | some (1, rest) => (r rest).map fun p => (some p.1, p.2)
  | _ => none

/-- An action (R209). -/
def readAction : Reader Action := readCode [.drop, .forward, .capture, .forwardCapture] Action.toByte

/-- A default action (R209). -/
def readDefault : Reader DefaultAction := readCode [.drop, .pass] DefaultAction.toByte

/-- A numbering (R209). -/
def readNumbering : Reader Numbering := readCode [.keep, .renumber] Numbering.toByte

/-- A damage policy (R209). -/
def readDamage : Reader DamagePolicy := readCode [.forwardDamaged, .dropDamaged] DamagePolicy.toByte

/-- A stale policy (R209). -/
def readStale : Reader StalePolicy := readCode [.sendStale, .dropStale] StalePolicy.toByte

/-- A bank (R209). -/
def readBank : Reader BankId := readCode [.a, .b] BankId.toByte

/-- A version mode (R209). -/
def readMode : Reader VersionMode := readCode [.any, .changed] VersionMode.toByte

/-- A restart kind (R209). -/
def readRestart : Reader RestartKind := readCode [.warm, .cold] RestartKind.toByte

/-- A condition kind (R209). -/
def readCond : Reader CondKind := readCode condKinds condCode

/-- Configuration item codes (R209). -/
def SettingItem.toByte : SettingItem → Byte
  | .staleLimit => 1
  | .tableShare => 2
  | .sessionTimeout => 3
  | .assemblyTimeout => 4

/-- A configuration item (R209). -/
def readItem : Reader SettingItem :=
  readCode [.staleLimit, .tableShare, .sessionTimeout, .assemblyTimeout] SettingItem.toByte

/-- A counter group (R209). -/
def readGroup : Reader CounterGroup :=
  readCode [.input, .output, .bankA, .bankB, .entry, .contexts, .slots, .agent] CounterGroup.toByte

/-- A type filter: 0..255 a type, 0x0100 ANY (R206). -/
def readTypeFilter : Reader (Option Byte) :=
  readWhere (readRange 2 0 256) fun v => some (if v = 256 then none else some (BitVec.ofNat 8 v))

/-! ## Argument lists (10_command_reference.md) -/

/-- No arguments. -/
def noArgs (_ : List Byte) : Except Nat Unit := .ok ()

/-- One argument. -/
def oneArg {α : Type} (r : Reader α) (bs : List Byte) : Except Nat α :=
  match argument 1 r bs with
  | .ok (x, _) => .ok x
  | .error p => .error p

/-- Two arguments. -/
def twoArgs {α β : Type} (r : Reader α) (q : Reader β) (bs : List Byte) : Except Nat (α × β) := do
  let (x, bs) ← argument 1 r bs
  let (y, _) ← argument 2 q bs
  return (x, y)

/-- Three arguments. -/
def threeArgs {α β γ : Type} (r : Reader α) (q : Reader β) (p : Reader γ) (bs : List Byte) : Except Nat (α × β × γ) := do
  let (x, bs) ← argument 1 r bs
  let (y, bs) ← argument 2 q bs
  let (z, _) ← argument 3 p bs
  return (x, y, z)

/-- MAP_PUT's nine arguments and their two constraints (R180). -/
def mapPutArgs (bs : List Byte) : Except Nat EntryFields := do
  let (tag, bs) ← argument 1 readTag bs
  let (action, bs) ← argument 2 readAction bs
  let (out, bs) ← argument 3 (readOptional 2 readTag) bs
  constraint 3 (out.isNone || action == .forward || action == .forwardCapture)
  let (numbering, bs) ← argument 4 readNumbering bs
  let (restamp, bs) ← argument 5 readFlag bs
  let (damage, bs) ← argument 6 readDamage bs
  let (stale, bs) ← argument 7 readStale bs
  let (limit, bs) ← argument 8 (readOptional 4 (readRange 4 250 2500000)) bs
  let (ctx, _) ← argument 9 (readOptional 1 (readIndex 8)) bs
  constraint 9 (ctx.isSome == (action == .capture || action == .forwardCapture))
  return ⟨tag, action, out, numbering, restamp, damage, stale, limit, ctx⟩

/-- SLOT_DEFINE's arguments (R190). -/
structure SlotDefineArgs where
  slot : Fin 16
  outTag : Tag
  type : Byte
  version : Version
  interval : Nat
deriving DecidableEq, Repr

/-- SLOT_DEFINE's argument list (R190). -/
def slotDefineArgs (bs : List Byte) : Except Nat SlotDefineArgs := do
  let (slot, bs) ← argument 1 (readIndex 16) bs
  let (tag, bs) ← argument 2 readTag bs
  let (type, bs) ← argument 3 (readNat 1) bs
  let (version, bs) ← argument 4 (readRange 1 0 31) bs
  let (interval, _) ← argument 5 (readRange 2 10 10000) bs
  return ⟨slot, tag, BitVec.ofNat 8 type, BitVec.ofNat 5 version, interval⟩

/-- SLOT_WRITE's argument list: slot, offset and the bytes; offset + count at most 2040 is held against the count (R191). -/
def slotWriteArgs (bs : List Byte) : Except Nat (Fin 16 × Nat × List Byte) := do
  let (slot, bs) ← argument 1 (readIndex 16) bs
  let (offset, bs) ← argument 2 (readRange 2 0 2039) bs
  let (count, bs) ← argument 3 (readRange 1 1 100) bs
  constraint 3 (decide (offset + count ≤ Config.bodyBytes))
  let (bytes, _) ← argument 4 (readBytes count) bs
  return (slot, offset, bytes)

/-- STORE_READ's offset: 0..2040, or 65,535 for the description (R188). -/
def readOffset : Reader Nat :=
  readWhere (readNat 2) fun v => if v ≤ Config.bodyBytes ∨ v = Config.descriptionOffset then some v else none

/-- COUNT_READ's argument list: the group with the part that is read, and the part byte echoed. The part of a group read
whole is ignored, and may be missing (R198, R206); what is echoed then is a free value (log 16). -/
def countReadArgs (bs : List Byte) : Except Nat (CounterGroup × Byte) := do
  let (group, bs) ← argument 1 (readWhere readGroup fun g => if g = .entry then none else some g) bs
  match group with
  | .contexts | .slots =>
    let (part, _) ← argument 2 (readRange 1 0 1) bs
    return (group, BitVec.ofNat 8 part)
  | _ => return (group, bs.headD Config.missingPart)

/-- What COUNT_CLEAR clears: a group, or one entry (R199). -/
inductive ClearScope where
  | group (g : CounterGroup)
  | entry (bank : BankId) (tag : Tag)
deriving DecidableEq, Repr

/-- COUNT_CLEAR's argument list: bank and input tag are read for the entry group only (R199, R206). -/
def countClearArgs (bs : List Byte) : Except Nat ClearScope := do
  let (group, bs) ← argument 1 readGroup bs
  if group = .entry then
    let (bank, bs) ← argument 2 readBank bs
    let (tag, _) ← argument 3 readTag bs
    return .entry bank tag
  else return .group group

/-- The range of a configuration item (R171). -/
def SettingItem.range : SettingItem → Nat × Nat
  | .staleLimit => (250, 2500000)
  | .tableShare => (2, 64)
  | .sessionTimeout => (1000, 60000)
  | .assemblyTimeout => (10, 5000)

/-- CONFIG_SET's argument list (R200). -/
def configSetArgs (bs : List Byte) : Except Nat (SettingItem × Nat) := do
  let (item, bs) ← argument 1 readItem bs
  let (value, _) ← argument 2 (readRange 4 item.range.1 item.range.2) bs
  return (item, value)

/-! ## Layout of results (R207) -/

/-- A tag on the wire (R206). -/
def tagBytes (t : Tag) : List Byte := beBytes 2 t.toNat

/-- An LT value on the wire (R207). -/
def ltBytes (t : Lt) : List Byte := beBytes 6 t.toNat

/-- A counter on the wire (R207). -/
def counterBytes (c : Counter) : List Byte := beBytes 4 c.toNat

/-- A count on the wire (R207). -/
def countBytes (n : Nat) : List Byte := beBytes 4 n

/-- An optional item: presence byte, then the value bytes, zero where it is absent (R207). Each field that may be absent
has a presence byte of its own. DESIGN CHOICE (log 12), unsafe. -/
def optBytes {α : Type} (width : Nat) (f : α → List Byte) : Option α → List Byte
  | some x => 1 :: f x
  | none => 0 :: List.replicate width 0

/-- The entry image, 17 bytes; absent values are zero (R207). DEDUCED (log 18), unsafe. -/
def entryImage (f : EntryFields) : List Byte :=
  tagBytes f.inputTag ++ [f.action.toByte] ++ optBytes 2 tagBytes f.outputTag
    ++ [f.numbering.toByte, flagByte f.restamp, f.damage.toByte, f.stale.toByte]
    ++ optBytes 4 (beBytes 4) f.staleLimit ++ optBytes 1 (fun c => [BitVec.ofNat 8 c.val]) f.context

/-- The last accepted sequence of a mode, absent in UNSEEN (R29). -/
def TrackMode.last : TrackMode → Option Seq
  | .unseen => none
  | .tracking l => some l
  | .resync l => some l

/-- The eight entry counters in the order of R3. -/
def EntryCounters.bytes (c : EntryCounters) : List Byte :=
  counterBytes c.matched ++ counterBytes c.queued ++ counterBytes c.dropDamaged ++ counterBytes c.dropCongestion
    ++ counterBytes c.dropPaused ++ counterBytes c.dropDuplicate ++ counterBytes c.gapCells ++ counterBytes c.discontinuities

/-- The MAP_READ result, 55 bytes (R207). -/
def mapReadResult (bank : BankId) (active : Bool) (e : Entry) : List Byte :=
  [bank.toByte, flagByte active] ++ entryImage e.fields ++ [e.track.mode.toByte]
    ++ optBytes 1 (fun q : Seq => [q.zeroExtend 8]) e.track.mode.last ++ [e.track.nextOut.zeroExtend 8] ++ e.counters.bytes

/-- One entry of the COND_READ result, 13 bytes; an absent first-event LT is zero (R207; log 18). -/
def condBytes (k : CondKind) (e : CondEntry) : List Byte :=
  [condCode k, e.state.toByte, (if e.noticeOwed then 1 else 0) + (if e.firstLt.isSome then 2 else 0)]
    ++ counterBytes e.count ++ ltBytes (e.firstLt.getD 0)

/-- A CONFLICT result: check code and 2-byte item (R207). -/
def conflictBytes (c : ConflictCheck) (item : Nat) : List Byte := c.toByte :: beBytes 2 item

/-- A reply cell's payload up to its length (R207). -/
def Reply.payload (r : Reply) (repeated : Bool) : List Byte :=
  beBytes 2 r.session.toNat ++ [0x01, r.seq, r.code] ++ beBytes 2 r.mark.toNat
    ++ [r.answer.status.toByte, r.answer.reason.toByte, flagByte repeated, BitVec.ofNat 8 r.answer.result.length]
    ++ r.answer.result

/-- A notice cell's payload up to its length (R208). -/
def noticePayload (session : Half) (number kind : Byte) (contents : List Byte) : List Byte :=
  beBytes 2 session.toNat ++ [0x02, number, kind] ++ contents

/-! ## Answers -/

/-- DONE with a result. -/
def doneWith (r : List Byte) : Answer := ⟨.done, .none, r⟩

/-- ACCEPTED with a result. -/
def acceptedWith (r : List Byte) : Answer := ⟨.accepted, .none, r⟩

/-- REFUSED with a reason and its result (R174). -/
def refusedWith (reason : Reason) (r : List Byte) : Answer := ⟨.refused, reason, r⟩

end Sys2Proof.Machine
end

