-- ==== Sys2Proof/Machine/CaptureEngine.lean ====
section
/-! DEFINITION. The Capture Engine's own steps: hand-offs, assembly, abandonment, filing, deadlines, binding reports and sync losses (R77 to R92). -/

namespace Sys2Proof.Machine

/-- Abandonment of context `i` (R86). -/
def State.abandon (s : State) (i : Fin 8) (why : LossReason) : State :=
  let c := s.capture.contexts[i]
  (s.setContext i { c with
    state := .armed, lastLoss := some (why, s.lt)
    counters := { c.counters with abandoned := Counter.inc c.counters.abandoned } }).report (.event .captureLoss)

/-- The lowest-numbered FREE record (R90). -/
def Capture.freeRecord (c : Capture) : Option (Fin 4) := recordNumbers.find? fun r => c.store[r].isNone

/-- The record that a complete message is filed as (R90); `lt` is the completion LT. -/
def Partial.record (p : Partial) (i : Fin 8) (lt : Lt) (owed : Bool) : Record :=
  ⟨i, p.source, p.type, p.version, (p.held.drop 4).take p.bodyLen, p.firstArrival, lt, owed⟩

/-- Filing of a passing message, or an overrun when no record is FREE (R90, R92). -/
def State.fileMessage (s : State) (i : Fin 8) (p : Partial) : State :=
  let c := { s.capture.contexts[i] with state := .armed }
  match s.capture.freeRecord with
  | some r =>
    { s with capture := { s.capture with
        store := setAt s.capture.store r (some (p.record i s.lt s.agent.session.isSome))
        filing := s.capture.filing ++ [r]
        contexts := setAt s.capture.contexts i { c with
          lastVersion := some p.version
          counters := { c.counters with delivered := Counter.inc c.counters.delivered } } } }
  | none =>
    (s.setContext i { c with counters := { c.counters with overruns := Counter.inc c.counters.overruns } }).report
      (.event .captureLoss)

/-- The CRC-32 of a complete message agrees with its last four bytes (R85, R205). -/
def messageSound (bytes : List Byte) : Bool :=
  let n := bytes.length - 4
  beVal (bytes.drop n) == (crc32 (bytes.take n)).toNat

/-- The filter's type test (R85). A context that assembles has a filter; without one nothing is asked. -/
def Context.typePasses (c : Context) (type : Byte) : Bool :=
  match c.filter with
  | some f => f.type.isNone || f.type == some type
  | none => true

/-- The message repeats the last delivered version under CHANGED (R85). -/
def Context.repeats (c : Context) (v : Version) : Bool :=
  match c.filter with
  | some f => f.mode == .changed && c.lastVersion == some v
  | none => false

/-- The fate of a complete message, in R85's order: CRC, type filter, version mode, filing. -/
def State.completeMessage (s : State) (i : Fin 8) (p : Partial) : State :=
  let c := s.capture.contexts[i]
  if !messageSound p.held then s.abandon i .crc
  else if !c.typePasses p.type then s.setContext i { c with state := .armed }
  else if c.repeats p.version then
    s.setContext i { c with state := .armed, counters := { c.counters with repeats := Counter.inc c.counters.repeats } }
  else s.fileMessage i p

/-- Accounting of a cell's payload against the bytes still to come (R83). -/
def State.accountCell (s : State) (i : Fin 8) (p : Partial) (cell : Cell) : State :=
  let still := 8 + p.bodyLen - p.held.length
  let n := cell.hdr.len.toNat
  let p' := { p with held := p.held ++ cell.payload.take n }
  if n = still then s.completeMessage i p'
  else if still < n then s.abandon i .length
  else if n = Config.payloadBytes then s.setContext i { s.capture.contexts[i] with state := .assembling p' }
  else s.abandon i .format

/-- An ARMED context takes a cell: only one with U set and F clear starts a message (R82). -/
def State.takeStart (s : State) (h : Handoff) : State :=
  if h.cell.hdr.u && !h.cell.hdr.f then
    let b (k : Nat) : Byte := h.cell.payload.getD k 0
    let len := beVal [b 2, b 3]
    if h.cell.hdr.len.toNat < 4 then s.abandon h.context .format
    else if (b 1).extractLsb' 5 3 != 0#3 then s.abandon h.context .format
    else if Config.bodyBytes < len then s.abandon h.context .length
    else s.accountCell h.context
      ⟨h.source, b 0, (b 1).extractLsb' 0 5, len, [], h.arrival, deadlineAfter s.lt s.agent.settings.assemblyTimeout⟩ h.cell
  else s

/-- The check of R84 that abandons a partial message, if any. -/
def midMessageLoss (h : Handoff) : Option LossReason :=
  if h.gap then some .gap
  else if h.cell.hdr.f then some .damage
  else if h.cell.hdr.u || h.cell.hdr.k then some .format
  else none

/-- A hand-off taken by its context (R81, R82, R84). -/
def State.takeHandoff (s : State) (h : Handoff) : State :=
  match s.capture.contexts[h.context].state with
  | .idle => s
  | .armed => s.takeStart h
  | .assembling p =>
    match midMessageLoss h with
    | some why => (s.abandon h.context why).takeStart h
    | none => s.accountCell h.context p h.cell

/-- CAPTURE_HANDOFF: the Capture Engine takes the next hand-off (R78). -/
def execCaptureHandoff (s : State) : Host.Outcome State Fault Refusal :=
  match s.capture.input with
  | .handoff h :: rest => .next (State.takeHandoff { s with capture := { s.capture with input := rest } } h)
  | _ => .next s

/-- ASSEMBLY_DEADLINE_REACHED: an assembling context whose deadline is reached is abandoned with TIMEOUT (R87). -/
def execAssemblyDeadlineReached (i : Fin 8) (s : State) : Host.Outcome State Fault Refusal :=
  match s.capture.contexts[i].state with
  | .assembling p => if reached s.lt p.deadline then .next (s.abandon i .timeout) else .next s
  | .idle | .armed => .next s

/-- One context takes its new binding (R88). -/
def State.bindContext (s : State) (i : Fin 8) (b : Option Tag) : State :=
  let s' :=
    match s.capture.contexts[i].state with
    | .assembling p => if b = some p.source then s else s.abandon i .unbound
    | .idle | .armed => s
  s'.setContext i { s'.capture.contexts[i] with binding := b }

/-- CAPTURE_BINDING_UPDATE: the Capture Engine takes the next binding report, context by context (R88). -/
def execCaptureBindingUpdate (s : State) : Host.Outcome State Fault Refusal :=
  match s.capture.input with
  | .bindings b :: rest =>
    .next (contextNumbers.foldl (fun s i => s.bindContext i b[i]) { s with capture := { s.capture with input := rest } })
  | _ => .next s

/-- Every assembling context is abandoned with LINE (R89). -/
def State.abandonAll (s : State) : State :=
  contextNumbers.foldl
    (fun s i =>
      match s.capture.contexts[i].state with
      | .assembling _ => s.abandon i .line
      | .idle | .armed => s) s

/-- SYNC_LOSS_CAPTURE_ABANDON: the Capture Engine takes a sync loss once it has taken every hand-off of a cell delivered before
it: from its own list where the Map Store took the loss first, else straight from the Line Receiver's report (R89, R127; log 26). -/
def execSyncLossCaptureAbandon (s : State) : Host.Outcome State Fault Refusal :=
  match s.capture.input, s.classifier.input with
  | .syncLoss :: rest, _ => .next (State.abandonAll { s with capture := { s.capture with input := rest } })
  | [], .syncLoss false :: rest =>
    .next (State.abandonAll { s with classifier := { s.classifier with input := .syncLoss true :: rest } })
  | _, _ => .next s

end Sys2Proof.Machine
end

