-- ==== Sys2Proof/Machine/ClassifierEngine.lean ====
section
/-! DEFINITION. The Classifier's steps: CELL_CLASSIFICATION with the tracker, the collision guard and command interception, MEDIA_ADMISSION and QUEUE_EMPTY_EVENT (R5 to R8, R30 to R40, R48, R53, R135). -/

namespace Sys2Proof.Machine

/-- The tracker's judgement of a cell (R30): a duplicate, or accepted with the new record, the cells found missing, the gap
indication and the output sequence of the descriptor. -/
inductive TrackResult where
  | duplicate
  | accepted (track : Tracking) (missed : Nat) (gap : Bool) (outSeq : Seq)
deriving DecidableEq, Repr

/-- The tracker assigns output sequences for a forwarding entry with RENUMBER (R35 to R37). -/
def EntryFields.renumbers (f : EntryFields) : Bool := f.forwards && f.numbering == .renumber

/-- Acceptance of a cell of sequence `q` whose output number lies `skip` past the next output sequence (R35, R36). -/
def acceptCell (f : EntryFields) (t : Tracking) (q : Seq) (skip missed : Nat) (gap : Bool) : TrackResult :=
  if f.renumbers then
    .accepted ⟨.tracking q, t.nextOut + BitVec.ofNat 6 skip + 1⟩ missed gap (t.nextOut + BitVec.ofNat 6 skip)
  else .accepted ⟨.tracking q, t.nextOut⟩ missed gap q

/-- The tracker (R31, R32, R33). -/
def trackCell (f : EntryFields) (t : Tracking) (q : Seq) : TrackResult :=
  match t.mode with
  | .unseen => acceptCell f t q 0 0 false
  | .resync _ => acceptCell f t q 1 0 true
  | .tracking last =>
    let d := (q - last - 1).toNat
    if d = 63 then .duplicate else acceptCell f t q d d (decide (d ≠ 0))

/-- The entry's counters once it has matched a cell that the tracker judged, and the cell's forwarding was refused for damage or
not (R5, R6, R33, R34). -/
def EntryCounters.classify (c : EntryCounters) (r : TrackResult) (damageDrop : Bool) : EntryCounters :=
  let c := { c with matched := Counter.inc c.matched }
  match r with
  | .duplicate => { c with dropDuplicate := Counter.inc c.dropDuplicate }
  | .accepted _ missed _ _ =>
    { c with
      gapCells := Counter.add c.gapCells missed
      discontinuities := if missed = 0 then c.discontinuities else Counter.inc c.discontinuities
      dropDamaged := if damageDrop then Counter.inc c.dropDamaged else c.dropDamaged }

/-- The forwarding of a cell is refused under DROP_DAMAGED (R6). -/
def EntryFields.refusesDamage (f : EntryFields) (c : Cell) : Bool := f.forwards && c.hdr.f && f.damage == .dropDamaged

/-- The media descriptor of a matched cell (R6, R46). -/
def EntryFields.descriptor (f : EntryFields) (c : Cell) (outSeq : Seq) (globalLimit : Nat) (arrival : Lt) : MediaCell :=
  ⟨c, f.effectiveTag, outSeq, f.restamp, f.staleLimit.getD globalLimit, f.stale, arrival⟩

/-- The hand-off of an accepted cell to capture, if its entry captures (R6, R78). -/
def EntryFields.handoff (f : EntryFields) (c : Cell) (arrival : Lt) (gap : Bool) : List CaptureItem :=
  match f.captures, f.context with
  | true, some i => [.handoff ⟨i, c, f.inputTag, arrival, gap⟩]
  | _, _ => []

/-- A matched cell: tracked, counted, handed to capture and offered for forwarding as its entry says (R6). -/
def State.classifyMatched (s : State) (e : Entry) (c : Cell) (arrival : Lt) : State :=
  let f := e.fields
  let r := trackCell f e.track c.hdr.seq
  let bank := s.map.activeBank
  let refuse := f.refusesDamage c
  match r with
  | .duplicate =>
    s.setBank s.map.active (bank.modify f.inputTag fun e => { e with counters := e.counters.classify r refuse })
  | .accepted track missed gap outSeq =>
    let s1 := s.setBank s.map.active
      (bank.modify f.inputTag fun e => { e with track := track, counters := e.counters.classify r refuse })
    let s2 := { s1 with
      capture := { s1.capture with input := s1.capture.input ++ f.handoff c arrival gap }
      classifier := { s1.classifier with
        offered := if f.forwards && !refuse then
            s1.classifier.offered
              ++ [⟨f.descriptor c outSeq s.agent.settings.staleLimit arrival, s.map.active, some f.inputTag⟩]
          else s1.classifier.offered } }
    if missed = 0 then s2 else s2.report (.event .sequenceGaps)

/-- The output tags that a default-passed cell must keep off (R8). -/
def State.assignedTags (s : State) : List Tag :=
  (s.map.activeBank.entries.filter fun e => e.fields.forwards).map (fun e => e.fields.effectiveTag)
    ++ s.agent.replyTag :: s.carousel.assigned.map Prod.snd

/-- The descriptor of a default-passed cell (R7). -/
def passedDescriptor (c : Cell) (globalLimit : Nat) (arrival : Lt) : MediaCell :=
  ⟨c, c.hdr.tag, c.hdr.seq, false, globalLimit, .dropStale, arrival⟩

/-- A bank's unmapped_dropped counted (R4). -/
def Bank.countDropped (b : Bank) : Bank :=
  { b with counters := { b.counters with unmappedDropped := Counter.inc b.counters.unmappedDropped } }

/-- A bank's unmapped_forwarded counted (R4). -/
def Bank.countForwarded (b : Bank) : Bank :=
  { b with counters := { b.counters with unmappedForwarded := Counter.inc b.counters.unmappedForwarded } }

/-- A bank's collision_drops counted (R4). -/
def Bank.countCollision (b : Bank) : Bank :=
  { b with counters := { b.counters with collisionDrops := Counter.inc b.counters.collisionDrops } }

/-- An unmapped cell: dropped, stopped by the collision guard, or offered (R7, R8). -/
def State.classifyUnmapped (s : State) (c : Cell) (arrival : Lt) : State :=
  let bank := s.map.activeBank
  match bank.default with
  | .drop => s.setBank s.map.active bank.countDropped
  | .pass =>
    if c.hdr.tag ∈ s.assignedTags then s.setBank s.map.active bank.countCollision
    else { s with classifier := { s.classifier with
      offered := s.classifier.offered
        ++ [⟨passedDescriptor c s.agent.settings.staleLimit arrival, s.map.active, none⟩] } }

/-- commands_discarded counted (R135, R157). -/
def Agent.countDiscarded (a : Agent) (n : Nat) : Agent :=
  { a with counters := { a.counters with discarded := Counter.add a.counters.discarded n } }

/-- Interception of a command cell (R135). -/
def State.intercept (s : State) (c : Cell) : State :=
  if s.agent.mode = .restarting then { s with agent := s.agent.countDiscarded 1 }
  else if c.hdr.f = true ∨ c.hdr.len.toNat < 6 ∨ s.agent.cmdQueue.length ≥ Config.commandPlaces then
    State.report { s with agent := s.agent.countDiscarded 1 } (.event .commandDiscard)
  else { s with agent := { s.agent with cmdQueue := s.agent.cmdQueue ++ [c] } }

/-- A delivered cell: intercepted on the command tag, else classified under the active bank (R5). -/
def State.classify (s : State) (c : Cell) (arrival : Lt) : State :=
  if c.hdr.tag = s.agent.cmdTag then s.intercept c
  else
    match s.map.activeBank.find c.hdr.tag with
    | some e => s.classifyMatched e c arrival
    | none => s.classifyUnmapped c arrival

/-- CELL_CLASSIFICATION: the Classifier takes the next delivered cell (R5). -/
def execCellClassification (s : State) : Host.Outcome State Fault Refusal :=
  match s.classifier.input with
  | .cell c arrival :: rest =>
    .next (State.classify { s with classifier := { s.classifier with input := rest } } c arrival)
  | _ => .next s

/-- The counting of an admission's result, in the entry that matched the cell or in the bank of a default-passed one (R48). -/
def Bank.countAdmission (b : Bank) (entry : Option Tag) (onEntry : EntryCounters → EntryCounters) (onBank : Bank → Bank) : Bank :=
  match entry with
  | some t => b.modify t fun e => { e with counters := onEntry e.counters }
  | none => onBank b

/-- MEDIA_ADMISSION: the next offered cell is admitted, or refused for pause or congestion (R48, R49). -/
def execMediaAdmission (s : State) : Host.Outcome State Fault Refusal :=
  match s.classifier.offered with
  | [] => .next s
  | o :: rest =>
    let s1 := { s with classifier := { s.classifier with offered := rest } }
    let bank := s.map.bank o.bank
    if s.classifier.admission ≠ .forwarding then
      .next (s1.setBank o.bank
        (bank.countAdmission o.entry (fun c => { c with dropPaused := Counter.inc c.dropPaused }) Bank.countDropped))
    else if s.queues.media.length ≥ Config.mediaBuffers then
      .next ((s1.setBank o.bank
        (bank.countAdmission o.entry (fun c => { c with dropCongestion := Counter.inc c.dropCongestion })
          Bank.countDropped)).report (.event .mediaCongestion))
    else
      .next (State.setBank { s1 with queues := { s.queues with media := s.queues.media ++ [o.media] } } o.bank
        (bank.countAdmission o.entry (fun c => { c with queued := Counter.inc c.queued }) Bank.countForwarded))

/-- QUEUE_EMPTY_EVENT: the Classifier takes a queue-empty report; in PAUSING the state becomes PAUSED and a PAUSE in flight ends
DONE (R53). "The state becomes PAUSED only with the media queue empty": a report that later admissions have overtaken
changes nothing. DEDUCED (log 20), unsafe. -/
def execQueueEmptyEvent (s : State) : Host.Outcome State Fault Refusal :=
  match s.classifier.queueEmpties with
  | 0 => .next s
  | n + 1 =>
    let s1 := { s with classifier := { s.classifier with queueEmpties := n } }
    if s.classifier.admission = .pausing ∧ s.queues.media = [] then
      .next (State.finishOp { s1 with classifier := { s1.classifier with admission := .paused } } .pause .done)
    else .next s1

end Sys2Proof.Machine
end

