-- ==== Sys2Proof/Machine/AgentEngine.lean ====
section
/-! DEFINITION. The Management Agent's machinery: taking a command (R136), judging it (R142 to R144), building replies and notices (R137, R151, R152), and its own events CONDITION_EVENT, LINE_CAUSE_GONE, SESSION_EXPIRY and the three notices. -/

namespace Sys2Proof.Machine

/-! ## Placing management cells (R51, R137) -/

/-- A management cell placed under a tag with the next reply-tag sequence (R46, R137). -/
def State.placeMgmt (s : State) (tag : Tag) (body : List Byte) (mark : Option RestartKind) : State :=
  { s with
    queues := { s.queues with mgmt := s.queues.mgmt ++ [⟨buildCell tag s.agent.replySeq false body, tag, s.agent.replySeq, mark⟩] }
    agent := { s.agent with replySeq := s.agent.replySeq + 1 } }

/-- A reply that is executed or refused counts by its status (R160). -/
def AgentCounters.countReply (c : AgentCounters) (st : Status) : AgentCounters :=
  match st with
  | .done | .accepted => { c with executed := Counter.inc c.executed }
  | .refused => { c with refused := Counter.inc c.refused }

/-- The reply to a command with an answer (R137). -/
def Command.reply (c : Command) (a : Answer) : Reply := ⟨c.session, c.seq, c.code, c.mark, a⟩

/-- A counted reply that leaves session, cache and deadline alone: IDENTIFY and the refusals of steps 1 to 3 (R142, R146). -/
def State.replyOutside (s : State) (c : Command) (a : Answer) : State :=
  State.placeMgmt { s with agent := { s.agent with counters := s.agent.counters.countReply a.status } }
    s.agent.replyTag ((c.reply a).payload false) none

/-! ## Notices: what is owed and what is allowed (R151, R152) -/

/-- A record owes a notice (R92). -/
def owes (r : Option Record) : Bool := r.any fun x => x.noticeOwed

/-- The owed record that stands earliest in the filing list (R152). -/
def Capture.firstOwed (c : Capture) : Option (Fin 4) := c.filing.find? fun r => owes c.store[r]

/-- The owed condition that comes first in kind order (R152). -/
def Agent.firstOwed (a : Agent) : Option CondKind := condKinds.find? fun k => (a.cond k).noticeOwed

/-- The completion is owed (R148). -/
def LongOp.isEnded : LongOp → Bool
  | .ended _ _ _ => true
  | .none | .inFlight _ _ => false

/-- Some notice is owed (R151). -/
def State.noticeOwed (s : State) : Bool :=
  s.agent.longOp.isEnded || s.capture.firstOwed.isSome || s.agent.firstOwed.isSome

/-- A notice may be built: a session is OPEN, the Agent serves, and at least 2 management buffers are free (R151). -/
def State.noticeAllowed (s : State) : Bool :=
  s.agent.session.isSome && decide (s.agent.mode = .serving) && decide (s.queues.mgmt.length + 2 ≤ Config.mgmtBuffers)

/-- A notice placed with the next notice number (R151). -/
def State.placeNotice (s : State) (kind : Byte) (contents : List Byte) : State :=
  let number := (s.agent.session.map Session.number).getD 0
  let s' := s.placeMgmt s.agent.replyTag (noticePayload number s.agent.noticeNo kind contents) none
  { s' with agent := { s'.agent with noticeNo := s'.agent.noticeNo + 1 } }

/-- The contents of a COMPLETION notice (R150, R208). -/
def completionContents (k : OpKind) (q : Byte) (o : OpOutcome) : List Byte :=
  match o with
  | .failed t => [q, k.toByte, o.toByte, Reason.conflict.toByte, 1] ++ tagBytes t
  | .done | .cancelled | .aborted =>
    [q, k.toByte, o.toByte, Reason.none.toByte, 0] ++ beBytes 2 Config.absentOffendingTag.toNat

/-- COMPLETION_NOTICE: the notice of an ENDED record is built, and the record returns to NONE (R150). -/
def execCompletionNotice (s : State) : Host.Outcome State Fault Refusal :=
  match s.agent.longOp with
  | .ended k q o =>
    if s.noticeAllowed then
      .next (State.placeNotice { s with agent := { s.agent with longOp := .none } } 1 (completionContents k q o))
    else .next s
  | .none | .inFlight _ _ => .next s

/-- The contents of a CAPTURE_READY notice (R92, R208). -/
def captureReadyContents (i : Fin 4) (r : Record) : List Byte :=
  [BitVec.ofNat 8 i.val, BitVec.ofNat 8 r.context.val] ++ tagBytes r.source ++ [r.type, r.version.zeroExtend 8]
    ++ beBytes 2 r.body.length ++ ltBytes r.firstArrival ++ ltBytes r.completion

/-- CAPTURE_READY_NOTICE: the notice of the earliest owed record is built, behind a COMPLETION, and its flag cleared (R92, R152, R153). -/
def execCaptureReadyNotice (s : State) : Host.Outcome State Fault Refusal :=
  match s.capture.firstOwed with
  | none => .next s
  | some i =>
    match s.capture.store[i] with
    | none => .next s
    | some r =>
      if s.noticeAllowed && !s.agent.longOp.isEnded then
        .next (State.placeNotice
          { s with capture := { s.capture with store := setAt s.capture.store i (some { r with noticeOwed := false }) } }
          2 (captureReadyContents i r))
      else .next s

/-- The contents of a CONDITION notice (R153, R208). -/
def conditionContents (k : CondKind) (e : CondEntry) : List Byte :=
  [condCode k, e.state.toByte] ++ counterBytes e.count ++ ltBytes (e.firstLt.getD 0)

/-- CONDITION_NOTICE: the notice of the first owed condition is built, behind completion and records, and its flag cleared (R152, R153). -/
def execConditionNotice (s : State) : Host.Outcome State Fault Refusal :=
  match s.agent.firstOwed with
  | none => .next s
  | some k =>
    if s.noticeAllowed && !s.agent.longOp.isEnded && s.capture.firstOwed.isNone then
      .next (State.placeNotice { s with agent := s.agent.setCond k (s.agent.cond k).clearOwed } 3
        (conditionContents k (s.agent.cond k)))
    else .next s

/-! ## Events of the Agent -/

/-- CONDITION_EVENT: the table takes an event of a kind, if it is the earliest report of the block that feeds it (R161, R162). -/
def execConditionEvent (k : CondKind) (s : State) : Host.Outcome State Fault Refusal :=
  match takeReport (.event k) s.reports with
  | none => .next s
  | some rest =>
    .next { s with
      reports := rest
      agent := s.agent.setCond k ((s.agent.cond k).takeEvent s.lt s.agent.session.isSome) }

/-- LINE_CAUSE_GONE: the table takes the report that the cause of LINE_UNLOCKED has gone (R161, R164). -/
def execLineCauseGone (s : State) : Host.Outcome State Fault Refusal :=
  match takeReport .causeGone s.reports with
  | none => .next s
  | some rest =>
    .next { s with
      reports := rest
      agent := s.agent.setCond .lineUnlocked (s.agent.cond .lineUnlocked).takeCauseGone }

/-- The session whose deadline is reached ends (R140). -/
def State.endIfExpired (s : State) : State :=
  match s.agent.session with
  | some x => if reached s.lt x.deadline then s.endSession else s
  | none => s

/-- SESSION_EXPIRY: LT reaching the deadline of the open session ends it (R140, R154). -/
def execSessionExpiry (s : State) : Host.Outcome State Fault Refusal := .next s.endIfExpired

/-! ## Taking and judging a command (R136, R142) -/

/-- The command the Agent may take now, with the state it leaves in the queue: SERVING, a queued command, a free management buffer
(R136), and no notice that comes first (R152). -/
def State.nextCommand (s : State) : Option (Command × State) :=
  if s.agent.mode = .serving ∧ s.queues.mgmt.length < Config.mgmtBuffers ∧ (s.noticeAllowed && s.noticeOwed) = false then
    match s.agent.cmdQueue with
    | c :: rest => some (Command.ofCell c, { s with agent := { s.agent with cmdQueue := rest } })
    | [] => none
  else none

/-- A deadline restarted now (R140). -/
def State.freshDeadline (s : State) : Lt := deadlineAfter s.lt s.agent.settings.sessionTimeout

/-- A repeat is answered from the cache under the current reply tag, and restarts the deadline (R143). -/
def State.answerRepeat (s : State) (x : Session) : State :=
  State.placeMgmt
    { s with agent := { s.agent with
        session := some { x with deadline := s.freshDeadline }
        counters := { s.agent.counters with repeats := Counter.inc s.agent.counters.repeats } } }
    s.agent.replyTag (x.cache.payload true) none

/-- The reply of an executed session command: cached, counted, the deadline restarted, and placed under the tag the reply is built
with (R137, R144). -/
def State.settle (s : State) (c : Command) (a : Answer) (tag : Tag) (mark : Option RestartKind) : State :=
  State.placeMgmt
    { s with agent := { s.agent with
        session := s.agent.session.map fun x => { x with deadline := s.freshDeadline, cache := c.reply a }
        counters := s.agent.counters.countReply a.status } }
    tag ((c.reply a).payload false) mark

/-- E advanced by one (R144). -/
def State.advanceExpected (s : State) : State :=
  { s with agent := { s.agent with session := s.agent.session.map fun x => { x with expected := x.expected + 1 } } }

/-- What a session command asks for: its arguments (step 5), whether the owning block can take the request now (R147), the request
(step 6), the restart mark of its reply, and what follows the reply. -/
structure Request (α : Type) where
  parse : List Byte → Except Nat α
  ready : α → State → Bool := fun _ _ => true
  act : Command → α → State → Answer × State
  mark : α → Option RestartKind := fun _ => none
  after : State → State := id

/-- The result of a BAD_ARGUMENT refusal: the position of the failing argument (R174). -/
def badArgument (pos : Nat) : Answer := refusedWith .badArgument [BitVec.ofNat 8 pos]

/-- Steps 1 to 3 of R142 on the open or closed session: what the command is answered without being executed, none where it is to be
executed. -/
def State.judgeOutside (s : State) (c : Command) : Option State :=
  match s.agent.session with
  | none => some (s.replyOutside c (refusedWith .noSession []))
  | some x =>
    if c.session ≠ x.number then
      some (s.replyOutside c (refusedWith .notOwner (beBytes 4 (timeLeft s.lt x.deadline))))
    else if c.seq = x.expected then none
    else if c.seq = x.expected - 1 then some (s.answerRepeat x)
    else some (s.replyOutside c (refusedWith .outOfOrder [x.expected]))

/-- A session command taken from the queue and judged (R140, R142 to R144); none where the owning block cannot take the request yet,
in which case the command has not been taken (log 21). -/
def State.judge {α : Type} (s : State) (c : Command) (r : Request α) : Option State :=
  let s := s.endIfExpired
  match s.judgeOutside c with
  | some s' => some s'
  | none =>
    match r.parse c.args with
    | .error pos => some (s.advanceExpected.settle c (badArgument pos) s.agent.replyTag none)
    | .ok x =>
      if r.ready x s then
        let (a, s') := r.act c x s.advanceExpected
        let done := s'.settle c a s.agent.replyTag (r.mark x)
        some (r.after done)
      else none

/-- The Agent's step on a session command whose code is of a kind (R136); nothing happens where the Agent may take no command or the
head of its queue carries another code. -/
def State.sessionCommandOf {α : Type} (s : State) (isCode : Byte → Bool) (r : Request α) : State :=
  match s.nextCommand with
  | some (c, s') => if isCode c.code then (s'.judge c r).getD s else s
  | none => s

/-- The Agent's step on a session command of one code (R136). -/
def State.sessionCommand {α : Type} (s : State) (code : Byte) (r : Request α) : State := s.sessionCommandOf (· == code) r

end Sys2Proof.Machine
end

