-- ==== Sys2Proof/Machine/SessionCommands.lean ====
section
/-! DEFINITION. Session and status commands: IDENTIFY, OPEN, CLOSE, PING, STATUS, and the command of an unknown code (R138 to R146, R175 to R179). -/

namespace Sys2Proof.Machine

/-- IDENTIFY's result (R175). -/
def identifyResult : List Byte :=
  beBytes 2 0x00D1 ++ beBytes 2 2410 ++ [1] ++ countBytes Config.bankEntries ++ countBytes 8 ++ countBytes 4 ++ countBytes 16
    ++ countBytes Config.mgmtBuffers ++ countBytes Config.tableBuffers ++ countBytes Config.mediaBuffers
    ++ countBytes Config.commandPlaces

/-- IDENTIFY: answered whatever the session, leaving it alone (R146). -/
def execIdentify (s : State) : Host.Outcome State Fault Refusal :=
  match s.nextCommand with
  | some (c, s') => if c.code = 0x11 then .next (s'.replyOutside c (doneWith identifyResult)) else .next s
  | none => .next s

/-- OPEN's result: E, the timeout in force, the next notice number (R176). -/
def openResult (expected : Byte) (timeout : Nat) (noticeNo : Byte) : List Byte :=
  [expected] ++ beBytes 4 timeout ++ [noticeNo]

/-- The DONE reply of an OPEN that gives the session a fresh E, deadline and cache (R138, R139). -/
def State.openReply (s : State) (c : Command) : State :=
  let a := doneWith (openResult (c.seq + 1) s.agent.settings.sessionTimeout s.agent.noticeNo)
  State.placeMgmt
    { s with agent := { s.agent with
        session := some ⟨c.session, c.seq + 1, s.freshDeadline, c.reply a⟩
        counters := s.agent.counters.countReply a.status } }
    s.agent.replyTag ((c.reply a).payload false) none

/-- Every waiting notice becomes owed to the controller that opens the session, and notices number from 0 (R92, R138). -/
def State.oweAll (s : State) : State :=
  { s with
    agent := { s.agent with noticeNo := 0, conds := mapAll CondEntry.openOwed s.agent.conds }
    capture := { s.capture with store := mapAll (setOwed true) s.capture.store } }

/-- OPEN judged: opened, repeated, resynchronised or refused (R138, R139, R140). -/
def State.judgeOpen (s : State) (c : Command) : State :=
  let s := s.endIfExpired
  match s.agent.session with
  | none => s.oweAll.openReply c
  | some x =>
    if c.session ≠ x.number then s.replyOutside c (refusedWith .notOwner (beBytes 4 (timeLeft s.lt x.deadline)))
    else if c.seq = x.expected - 1 then s.answerRepeat x
    else s.openReply c

/-- OPEN (R138, R139, R176). -/
def execOpen (s : State) : Host.Outcome State Fault Refusal :=
  match s.nextCommand with
  | some (c, s') => if c.code = 0x12 then .next (s'.judgeOpen c) else .next s
  | none => .next s

/-- CLOSE: DONE, then the session ends (R141, R177). -/
def closeRequest : Request Unit where
  parse := noArgs
  act _ _ s := (doneWith [], s)
  after := State.endSession

/-- CLOSE (R141, R177). -/
def execClose (s : State) : Host.Outcome State Fault Refusal := .next (s.sessionCommand 0x13 closeRequest)

/-- PING: DONE with LT (R178). -/
def pingRequest : Request Unit where
  parse := noArgs
  act _ _ s := (doneWith (ltBytes s.lt), s)

/-- PING (R178). -/
def execPing (s : State) : Host.Outcome State Fault Refusal := .next (s.sessionCommand 0x14 pingRequest)

/-- A record's position in the filing list, from 1 (R179, R188). -/
def Capture.position (c : Capture) (i : Fin 4) : Option Nat := (c.filing.findIdx? fun r => r = i).map (· + 1)

/-- The number of FILLED records (R91, R179). -/
def Capture.occupancy (c : Capture) : Nat := (recordNumbers.filter fun r => c.store[r].isSome).length

/-- A record's state and position, as STATUS lays them out (R179). -/
def Capture.recordStatus (c : Capture) (i : Fin 4) : List Byte :=
  flagByte c.store[i].isSome :: optBytes 1 (fun n => [BitVec.ofNat 8 n]) (c.position i)

/-- STATUS's result (R179). What it holds of each bank lies bank by bank, A first, the entry count before the default action; what it holds
of each record lies record by record, from 0: DESIGN CHOICE (log 33), unsafe. -/
def statusResult (s : State) : List Byte :=
  let a := s.agent
  let m := s.map
  [flagByte a.session.isSome, (a.session.map Session.expected).getD 0]
    ++ [a.longOp.stateByte] ++ optBytes 1 (fun k => [OpKind.toByte k]) a.longOp.kind
    ++ optBytes 1 (fun q => [q]) a.longOp.seq ++ optBytes 1 (fun o => [OpOutcome.toByte o]) a.longOp.outcome
    ++ optBytes 6 ltBytes (m.pendingCommit.map PendingCommit.due)
    ++ [m.active.toByte] ++ countBytes m.bankA.entries.length ++ [m.bankA.default.toByte]
    ++ countBytes m.bankB.entries.length ++ [m.bankB.default.toByte]
    ++ [s.classifier.admission.toByte, s.line.delin.toByte]
    ++ beBytes 1 s.queues.mgmt.length ++ beBytes 1 s.queues.table.length ++ beBytes 2 s.queues.media.length
    ++ beBytes 1 a.cmdQueue.length
    ++ countBytes s.capture.occupancy ++ recordNumbers.flatMap s.capture.recordStatus
    ++ tagBytes a.cmdTag ++ tagBytes a.replyTag

/-- STATUS: DONE with what every block reports (R179). The items of different blocks, which the part takes at instants of their own
(R147), are all taken at the instant of the Agent's step: DESIGN CHOICE (log 29), unsafe. -/
def statusRequest : Request Unit where
  parse := noArgs
  act _ _ s := (doneWith (statusResult s), s)

/-- STATUS (R179). -/
def execStatus (s : State) : Host.Outcome State Fault Refusal := .next (s.sessionCommand 0x15 statusRequest)

/-- A command code that is not one of the thirty-four is refused at step 4 (R142). -/
def unknownRequest : Request Unit where
  parse := noArgs
  act _ _ s := (refusedWith .unknownCommand [], s)

/-- UNKNOWN_COMMAND: judged as a session command (R142). -/
def execUnknownCommand (s : State) : Host.Outcome State Fault Refusal :=
  .next (s.sessionCommandOf (fun code => !commandCodes.contains code) unknownRequest)

end Sys2Proof.Machine
end

