-- ==== Sys2Proof/Machine/CaptureCommands.lean ====
section
/-! DEFINITION. Capture commands: CTX_ARM, CTX_DISARM, STORE_READ, STORE_RELEASE (R80, R81, R93, R94, R187 to R189). -/

namespace Sys2Proof.Machine

/-- A type filter on the wire: a type, or 0x0100 for ANY (R206). -/
def typeFilterBytes (f : Filter) : List Byte :=
  match f.type with
  | some t => beBytes 2 t.toNat
  | none => [0x01, 0x00]

/-- CTX_ARM on a context (R80). -/
def State.arm (s : State) (i : Fin 8) (f : Filter) : State :=
  let s' :=
    match s.capture.contexts[i].state with
    | .assembling _ => s.abandon i .rearmed
    | .idle | .armed => s
  s'.setContext i { s'.capture.contexts[i] with state := .armed, filter := some f, lastVersion := none }

/-- CTX_ARM (R80, R187). -/
def ctxArmRequest : Request (Fin 8 × Option Byte × VersionMode) where
  parse := threeArgs (readIndex 8) readTypeFilter readMode
  act _ x s :=
    let c := s.capture.contexts[x.1]
    (doneWith ([c.state.toByte] ++ optBytes 2 typeFilterBytes c.filter
        ++ optBytes 1 (fun f : Filter => [f.mode.toByte]) c.filter),
     s.arm x.1 ⟨x.2.1, x.2.2⟩)

/-- CTX_ARM (R80, R187). -/
def execCtxArm (s : State) : Host.Outcome State Fault Refusal := .next (s.sessionCommand 0x31 ctxArmRequest)

/-- CTX_DISARM (R81, R187). -/
def ctxDisarmRequest : Request (Fin 8) where
  parse := oneArg (readIndex 8)
  act _ i s :=
    (doneWith [s.capture.contexts[i].state.toByte], s.setContext i { s.capture.contexts[i] with state := .idle })

/-- CTX_DISARM (R81, R187). -/
def execCtxDisarm (s : State) : Host.Outcome State Fault Refusal := .next (s.sessionCommand 0x32 ctxDisarmRequest)

/-- A record's description (R188). Its items stand without presence bytes, though a STORE_READ at a body offset has none of them (R207):
DESIGN CHOICE (log 32), unsafe. -/
def recordDescription (r : Record) (position : Nat) : List Byte :=
  [BitVec.ofNat 8 r.context.val] ++ tagBytes r.source ++ [r.type, r.version.zeroExtend 8] ++ beBytes 2 r.body.length
    ++ ltBytes r.firstArrival ++ ltBytes r.completion ++ beBytes 1 position ++ [flagByte r.noticeOwed]

/-- STORE_READ's answer (R93, R188). -/
def storeReadAnswer (c : Capture) (i : Fin 4) (offset : Nat) : Answer :=
  match c.store[i] with
  | none => refusedWith .notFound []
  | some r =>
    if offset = Config.descriptionOffset then doneWith (recordDescription r ((c.position i).getD 0))
    else doneWith ((r.body.drop offset).take Config.readBytes)

/-- STORE_READ (R93, R188). -/
def storeReadRequest : Request (Fin 4 × Nat) where
  parse := twoArgs (readIndex 4) readOffset
  act _ x s := (storeReadAnswer s.capture x.1 x.2, s)

/-- STORE_READ (R93, R188). -/
def execStoreRead (s : State) : Host.Outcome State Fault Refusal := .next (s.sessionCommand 0x33 storeReadRequest)

/-- A record freed: its message and flag gone, the filing list's order kept (R94). -/
def Capture.release (c : Capture) (i : Fin 4) : Capture :=
  { c with store := setAt c.store i none, filing := c.filing.filter fun r => r != i }

/-- STORE_RELEASE (R94, R189). -/
def storeReleaseRequest : Request (Fin 4) where
  parse := oneArg (readIndex 4)
  act _ i s :=
    match s.capture.store[i] with
    | none => (refusedWith .notFound [], s)
    | some r =>
      (doneWith ([BitVec.ofNat 8 r.context.val] ++ tagBytes r.source ++ ltBytes r.completion),
       { s with capture := s.capture.release i })

/-- STORE_RELEASE (R94, R189). -/
def execStoreRelease (s : State) : Host.Outcome State Fault Refusal := .next (s.sessionCommand 0x34 storeReleaseRequest)

end Sys2Proof.Machine
end

