-- ==== Sys2Proof/Machine/CarouselEngine.lean ====
section
/-! DEFINITION. The Carousel Engine's own steps: SLOT_DUE, TABLE_CELL_PLACEMENT, and the choice and start of an emission they share (R107 to R113). -/

namespace Sys2Proof.Machine

/-- A framed message: header, body, CRC-32 (R111, R205). -/
def frameMessage (type : Byte) (version : Version) (body : List Byte) : List Byte :=
  let covered := [type, version.zeroExtend 8] ++ beBytes 2 body.length ++ body
  covered ++ beBytes 4 (crc32 covered).toNat

/-- The cells a message of `n` bytes occupies (R77, R111). -/
def cellCount (n : Nat) : Nat := (n + (Config.payloadBytes - 1)) / Config.payloadBytes

/-- Step 1 of an emission start: a published pending image is taken (R109). -/
def SlotData.takePending (d : SlotData) : SlotData :=
  if d.published then
    { d with current := some (Memory.readAll d.pendingBytes 0 d.pendingLen),
             version := if d.bump then d.version + 1 else d.version, published := false, bump := false }
  else d

/-- The slot's interval in ticks (R67, R110). -/
def SlotData.intervalTicks (d : SlotData) : Nat := Config.timerUnit * d.interval

/-- The number k of R110: whole intervals since the due time, plus one. -/
def SlotData.elapsed (d : SlotData) (lt : Lt) : Nat := (lt - d.nextDue).toNat / d.intervalTicks + 1

/-- The next due LT, D + k times the interval (R110). -/
def SlotData.advanceDue (d : SlotData) (lt : Lt) : Lt := d.nextDue + BitVec.ofNat 48 (d.elapsed lt * d.intervalTicks)

/-- How long a slot's due time has been reached (R108). -/
def Carousel.age (c : Carousel) (lt : Lt) (i : Fin 16) : Nat :=
  match c.slots[i] with
  | some d => (lt - d.nextDue).toNat
  | none => 0

/-- A slot put into a due list by the order of choice: longest reached first, then the lowest number (R107, R108). -/
def Carousel.insertDue (c : Carousel) (lt : Lt) (i : Fin 16) : List (Fin 16) → List (Fin 16)
  | [] => [i]
  | j :: js =>
    if c.age lt j < c.age lt i ∨ (c.age lt i = c.age lt j ∧ i < j) then i :: j :: js
    else j :: c.insertDue lt i js

/-- A due list in the order of choice at an LT (R108). -/
def Carousel.sortDue (c : Carousel) (lt : Lt) (is : List (Fin 16)) : List (Fin 16) :=
  is.foldr (c.insertDue lt) []

/-- The slot on joining the due list, at most once (R107). -/
def State.joinDue (s : State) (i : Fin 16) : State :=
  if i ∈ s.carousel.due then s
  else { s with carousel := { s.carousel with due := s.carousel.sortDue s.lt (i :: s.carousel.due) } }

/-- Starts the emission of a slot whose message can be framed from `body`; `d` is the slot before the start, `d'` after
the take of the pending image (R109 steps 2 and 3, R110). -/
def State.startEmission (s : State) (i : Fin 16) (d d' : SlotData) (body : List Byte) : State :=
  let late := decide (2 ≤ d.elapsed s.lt)
  let d'' := { d' with nextDue := d.advanceDue s.lt,
                       lateEvents := if late then Counter.inc d'.lateEvents else d'.lateEvents }
  let s' := s.setSlot i (some d'')
  let s' := { s' with carousel := { s'.carousel with emission := some ⟨i, frameMessage d''.type d''.version body, 0⟩ } }
  if late then s'.report (.event .carouselLate) else s'

/-- The engine's choice among the slots of a due list in its order: the first whose message can be framed is emitted; one
without an image only has its next due LT set and leaves the list (R108, R109). -/
def State.chooseFrom : List (Fin 16) → State → State
  | [], s => { s with carousel := { s.carousel with due := [] } }
  | i :: rest, s =>
    match s.carousel.slots[i] with
    | none => State.chooseFrom rest s
    | some d =>
      match d.takePending.current with
      | none => State.chooseFrom rest (s.setSlot i (some { d.takePending with nextDue := d.advanceDue s.lt }))
      | some body =>
        State.startEmission { s with carousel := { s.carousel with due := rest } } i d d.takePending body

/-- Whenever the engine is free and the due list is not empty, it chooses (R108). -/
def State.choose (s : State) : State :=
  match s.carousel.emission with
  | some _ => s
  | none => State.chooseFrom (s.carousel.sortDue s.lt s.carousel.due) s

/-- SLOT_DUE: a RUNNING slot whose due time is reached joins the due list, and the engine chooses if it is free (R107, R108).
One slot joins a step: log 25. -/
def execSlotDue (i : Fin 16) (s : State) : Host.Outcome State Fault Refusal :=
  match s.carousel.slots[i] with
  | none => .next s
  | some d =>
    if d.run = .running ∧ reached s.lt d.nextDue ∧ i ∉ s.carousel.due then .next (s.joinDue i).choose
    else .next s

/-- The slot at an emission's end: counted, and STOPPING becomes DEFINED (R113). -/
def SlotData.endEmission (d : SlotData) : SlotData :=
  { d with emissions := Counter.inc d.emissions, run := if d.run = .stopping then .defined else d.run }

/-- The cell that carries the next part of an emission (R111, R112). -/
def Emission.cell (e : Emission) (d : SlotData) : TableCell :=
  ⟨buildCell d.outTag d.outSeq (decide (e.placed = 0))
    ((e.message.drop (Config.payloadBytes * e.placed)).take Config.payloadBytes), d.outTag, d.outSeq⟩

/-- TABLE_CELL_PLACEMENT: the next cell of the emission goes into a free table buffer; the last one ends the emission, and the
engine chooses again (R50, R112, R113). -/
def execTableCellPlacement (s : State) : Host.Outcome State Fault Refusal :=
  match s.carousel.emission with
  | none => .next s
  | some e =>
    match s.carousel.slots[e.slot] with
    | none => .next s
    | some d =>
      if s.queues.table.length < Config.tableBuffers then
        let s1 := { s with queues := { s.queues with table := s.queues.table ++ [e.cell d] } }
        let d1 := { d with outSeq := d.outSeq + 1 }
        if e.placed + 1 < cellCount e.message.length then
          let s2 := s1.setSlot e.slot (some d1)
          .next { s2 with carousel := { s2.carousel with emission := some { e with placed := e.placed + 1 } } }
        else
          let s2 := s1.setSlot e.slot (some d1.endEmission)
          .next (State.choose { s2 with carousel := { s2.carousel with emission := none } })
      else .next s

/-- A slot at a WARM restart: STOPPING becomes DEFINED, RUNNING is due at once (R118). -/
def SlotData.warm (lt : Lt) (d : SlotData) : SlotData :=
  match d.run with
  | .defined => d
  | .running => { d with nextDue := lt }
  | .stopping => { d with run := .defined }

/-- The engine at a WARM restart, before it chooses: the emission is dropped and every RUNNING slot is on the due list, in
order of slot number (R118). -/
def Carousel.warm (lt : Lt) (c : Carousel) : Carousel :=
  let slots := mapAll (Option.map (SlotData.warm lt)) c.slots
  ⟨slots, slotNumbers.filter fun i => slots[i].any fun d => decide (d.run = .running), none⟩

end Sys2Proof.Machine
end

