-- ==== Sys2Proof/Machine/CarouselCommands.lean ====
section
/-! DEFINITION. Carousel commands: SLOT_DEFINE, SLOT_WRITE, SLOT_PUBLISH, SLOT_START, SLOT_STOP, SLOT_CLEAR, SLOT_QUERY (R101 to R106, R115, R190 to R195). -/

namespace Sys2Proof.Machine

/-- A WRONG_STATE refusal with the slot's state (R174). -/
def wrongSlotState (d : Option SlotData) : Answer := refusedWith .wrongState [slotStateByte d]

/-- A slot defined from EMPTY (R101). Its next due LT, which has no meaning before SLOT_START sets it (R99), is 0: DESIGN CHOICE
(log 31), safe. -/
def SlotData.fresh (x : SlotDefineArgs) : SlotData :=
  ⟨.defined, x.outTag, x.type, x.version, x.interval, none, [], 0, false, false, 0, 0, 0, 0⟩

/-- A DEFINED slot defined again: the four fields replaced, the output sequence kept if the output tag is (R101). -/
def SlotData.redefine (d : SlotData) (x : SlotDefineArgs) : SlotData :=
  { d with outTag := x.outTag, type := x.type, version := x.version, interval := x.interval,
           outSeq := if d.outTag = x.outTag then d.outSeq else 0 }

/-- SLOT_DEFINE (R101, R190). -/
def slotDefineRequest : Request SlotDefineArgs where
  parse := slotDefineArgs
  act _ x s :=
    match s.carousel.slots[x.slot] with
    | none => (doneWith [slotStateByte none, flagByte true], s.setSlot x.slot (some (SlotData.fresh x)))
    | some d =>
      if d.run = .defined then
        (doneWith [slotStateByte (some d), flagByte (decide (d.outTag ≠ x.outTag))], s.setSlot x.slot (some (d.redefine x)))
      else (wrongSlotState (some d), s)

/-- SLOT_DEFINE (R101, R190). -/
def execSlotDefine (s : State) : Host.Outcome State Fault Refusal := .next (s.sessionCommand 0x41 slotDefineRequest)

/-- SLOT_WRITE (R102, R191). -/
def slotWriteRequest : Request (Fin 16 × Nat × List Byte) where
  parse := slotWriteArgs
  act _ x s :=
    match s.carousel.slots[x.1] with
    | none => (wrongSlotState none, s)
    | some d =>
      (doneWith [slotStateByte (some d), flagByte d.published],
       s.setSlot x.1 (some { d with pendingBytes := Memory.writeAll d.pendingBytes x.2.1 x.2.2, published := false }))

/-- SLOT_WRITE (R102, R191). -/
def execSlotWrite (s : State) : Host.Outcome State Fault Refusal := .next (s.sessionCommand 0x42 slotWriteRequest)

/-- SLOT_PUBLISH (R103, R192). -/
def slotPublishRequest : Request (Fin 16 × Nat × Bool) where
  parse := threeArgs (readIndex 16) (readRange 2 0 2040) readFlag
  act _ x s :=
    match s.carousel.slots[x.1] with
    | none => (wrongSlotState none, s)
    | some d =>
      (doneWith [flagByte d.published, d.version.zeroExtend 8],
       s.setSlot x.1 (some { d with pendingLen := x.2.1, published := true, bump := x.2.2 }))

/-- SLOT_PUBLISH (R103, R192). -/
def execSlotPublish (s : State) : Host.Outcome State Fault Refusal := .next (s.sessionCommand 0x43 slotPublishRequest)

/-- What a slot's output tag clashes with, as the CONFLICT refusal reports it (R104, R193, R209). -/
def startClash (s : State) (t : Tag) : Option (List Byte) :=
  match s.map.activeBank.forwarder t with
  | some e => some (conflictBytes .activeEntry e.fields.inputTag.toNat)
  | none =>
    if t = s.agent.replyTag then some (conflictBytes .replyTag t.toNat)
    else (s.carousel.holder t).map fun i => conflictBytes .activeSlot i.val

/-- SLOT_START of a DEFINED slot: RUNNING and due at once, and the engine chooses if it is free (R104, R107, R108). -/
def State.startSlot (s : State) (i : Fin 16) (d : SlotData) : State :=
  State.choose (State.joinDue (s.setSlot i (some { d with run := .running, nextDue := s.lt })) i)

/-- SLOT_START (R104, R193). -/
def slotStartRequest : Request (Fin 16) where
  parse := oneArg (readIndex 16)
  act _ i s :=
    match s.carousel.slots[i] with
    | none => (refusedWith .wrongState [slotStateByte none, 1], s)
    | some d =>
      match d.run with
      | .stopping => (refusedWith .wrongState [slotStateByte (some d), 1], s)
      | .running => (doneWith ([slotStateByte (some d)] ++ optBytes 6 ltBytes none), s)
      | .defined =>
        if d.current.isNone && !d.published then (refusedWith .wrongState [slotStateByte (some d), 2], s)
        else
          match startClash s d.outTag with
          | some r => (refusedWith .conflict r, s)
          | none => (doneWith ([slotStateByte (some d)] ++ optBytes 6 ltBytes (some s.lt)), s.startSlot i d)

/-- SLOT_START (R104, R193). -/
def execSlotStart (s : State) : Host.Outcome State Fault Refusal := .next (s.sessionCommand 0x44 slotStartRequest)

/-- An emission of this slot is in progress (R99, R105). -/
def Carousel.emits (c : Carousel) (i : Fin 16) : Bool := c.emission.any fun e => e.slot == i

/-- The state a RUNNING slot is stopped to (R105). -/
def Carousel.stopped (c : Carousel) (i : Fin 16) : SlotRun := if c.emits i then .stopping else .defined

/-- SLOT_STOP of a RUNNING slot; it leaves the due list (R105, R107). -/
def State.stopSlot (s : State) (i : Fin 16) (d : SlotData) : State :=
  let s' := s.setSlot i (some { d with run := s.carousel.stopped i })
  { s' with carousel := { s'.carousel with due := s'.carousel.due.filter fun j => j != i } }

/-- SLOT_STOP (R105, R194). -/
def slotStopRequest : Request (Fin 16) where
  parse := oneArg (readIndex 16)
  act _ i s :=
    match s.carousel.slots[i] with
    | none => (wrongSlotState none, s)
    | some d =>
      if d.run = .running then
        (doneWith [slotStateByte (some d), slotStateByte (some { d with run := s.carousel.stopped i })], s.stopSlot i d)
      else (doneWith [slotStateByte (some d), slotStateByte (some d)], s)

/-- SLOT_STOP (R105, R194). -/
def execSlotStop (s : State) : Host.Outcome State Fault Refusal := .next (s.sessionCommand 0x45 slotStopRequest)

/-- SLOT_CLEAR (R106, R194). -/
def slotClearRequest : Request (Fin 16) where
  parse := oneArg (readIndex 16)
  act _ i s :=
    match s.carousel.slots[i] with
    | none => (doneWith [slotStateByte none], s)
    | some d =>
      if d.run = .defined then (doneWith [slotStateByte (some d)], s.setSlot i none)
      else (wrongSlotState (some d), s)

/-- SLOT_CLEAR (R106, R194). -/
def execSlotClear (s : State) : Host.Outcome State Fault Refusal := .next (s.sessionCommand 0x46 slotClearRequest)

/-- SLOT_QUERY's result: every item but the state is optional, each with its presence byte (R115, R195, R207; log 12). -/
def slotQueryResult (c : Carousel) (i : Fin 16) : List Byte :=
  let o := c.slots[i]
  let running := o.filter fun d => decide (d.run = .running)
  let emission := c.emission.filter fun e => decide (e.slot = i)
  [slotStateByte o]
    ++ optBytes 2 (fun d : SlotData => tagBytes d.outTag) o ++ optBytes 1 (fun d : SlotData => [d.type]) o
    ++ optBytes 1 (fun d : SlotData => [d.version.zeroExtend 8]) o
    ++ optBytes 2 (fun d : SlotData => beBytes 2 d.interval) o
    ++ optBytes 2 (fun b : List Byte => beBytes 2 b.length) (o.bind SlotData.current)
    ++ optBytes 2 (fun d : SlotData => beBytes 2 d.pendingLen) o
    ++ optBytes 1 (fun d : SlotData => [flagByte d.published]) o ++ optBytes 1 (fun d : SlotData => [flagByte d.bump]) o
    ++ optBytes 1 (fun d : SlotData => [d.outSeq.zeroExtend 8]) o
    ++ optBytes 6 (fun d : SlotData => ltBytes d.nextDue) running
    ++ optBytes 1 (fun _ : SlotData => [flagByte (c.due.contains i)]) running
    ++ optBytes 4 (fun e : Emission => countBytes e.placed) emission
    ++ optBytes 4 (fun e : Emission => countBytes (cellCount e.message.length)) emission
    ++ optBytes 4 (fun d : SlotData => counterBytes d.emissions) o
    ++ optBytes 4 (fun d : SlotData => counterBytes d.lateEvents) o

/-- SLOT_QUERY (R115, R195). -/
def slotQueryRequest : Request (Fin 16) where
  parse := oneArg (readIndex 16)
  act _ i s := (doneWith (slotQueryResult s.carousel i), s)

/-- SLOT_QUERY (R115, R195). -/
def execSlotQuery (s : State) : Host.Outcome State Fault Refusal := .next (s.sessionCommand 0x47 slotQueryRequest)

end Sys2Proof.Machine
end

