-- ==== Sys2Proof/Machine/LineEngine.lean ====
section
/-! DEFINITION. The Line Receiver's steps HEADER_EXAMINATION and CELL_DELIVERY (R119 to R129) and the Time Counter's TREF_EDGE (R66). -/

namespace Sys2Proof.Machine

/-- The header six counted bytes carry, none where invalid (R120). -/
def HeaderSample.header (h : HeaderSample) : Option Header :=
  readHeader h.b0.data h.b1.data h.b2.data h.b3.data h.b4.data h.b5.data

/-- IERR was high on one of the six bytes (R128). -/
def HeaderSample.anyIerr (h : HeaderSample) : Bool :=
  h.b0.ierr || h.b1.ierr || h.b2.ierr || h.b3.ierr || h.b4.ierr || h.b5.ierr

/-- How many ticks ago an LT last was: the age of a byte, but for whole rounds of LT (R66, R69). -/
def ticksSince (now arrival : Lt) : Nat := (now - arrival).toNat

/-- The first byte of the position next examined may have been counted at an LT: it is counted after the first byte of the position
last examined, and before the examination (R69, R121). How late in between, ICLK and IVAL decide; IVAL may stay low for any time,
rounds of LT included (R119; log 6). -/
def LineReceiver.counts (l : LineReceiver) (now arrival : Lt) : Bool := decide (ticksSince now arrival ≤ l.examinedAgo)

/-- The Line Receiver keeps the LT of the first byte of the position it examines (R69). Of the ages that this LT leaves open it counts
the greatest that the position before allows, so that no later byte is shut out (R119; log 6). -/
def LineReceiver.keepLt (l : LineReceiver) (now arrival : Lt) : LineReceiver :=
  let ago := ticksSince now arrival
  { l with examinedLt := arrival, examinedAgo := ago + (l.examinedAgo - ago) / 2 ^ 48 * 2 ^ 48 }

/-- What an examination of the position next examined does to the Line Receiver, with the reports it makes and whether it is a
sync loss (R121 to R126). A cell in reception takes the LT kept at its first byte (R69). -/
def LineReceiver.examine (l : LineReceiver) (h : HeaderSample) : LineReceiver × List Report × Bool :=
  match l.delin, HeaderSample.header h with
  | .hunt, none => ({ l with nextPos := l.nextPos + 1 }, [], false)
  | .hunt, some _ => ({ l with delin := .confirm 1, nextPos := l.nextPos + 128 }, [], false)
  | .confirm _, none => ({ l with delin := .hunt, nextPos := l.nextPos + 1 }, [], false)
  | .confirm c, some hd =>
    if c < 2 then ({ l with delin := .confirm (c + 1), nextPos := l.nextPos + 128 }, [], false)
    else ({ l with delin := .locked 0, nextPos := l.nextPos + 128, receiving := some ⟨hd, HeaderSample.anyIerr h, l.examinedLt⟩ },
          [.causeGone], false)
  | .locked _, some hd =>
    ({ l with delin := .locked 0, nextPos := l.nextPos + 128, receiving := some ⟨hd, HeaderSample.anyIerr h, l.examinedLt⟩ }, [], false)
  | .locked m, none =>
    let counted := { l.counters with headerErrors := Counter.inc l.counters.headerErrors }
    if m + 1 < Config.missLimit then
      ({ l with delin := .locked (m + 1), nextPos := l.nextPos + 128, counters := counted }, [.event .headerErrors], false)
    else
      ({ l with delin := .hunt, nextPos := l.nextPos + 1,
                counters := { counted with syncLosses := Counter.inc counted.syncLosses } },
       [.event .headerErrors, .event .lineUnlocked], true)

/-- HEADER_EXAMINATION: the six bytes at the position next examined are judged (R120). A sync loss is handed to the Map Store and
the Capture Engine behind every cell delivered before it (R126, R127). The next header cannot be examined before the cell in
reception has its last byte: DEDUCED (log 7), unsafe. No sample is taken while RESET_N is low (R130). `arrival` is the LT of the
position's first byte; an LT that it cannot have is no examination (R69; log 2, log 6). -/
def execHeaderExamination (h : HeaderSample) (arrival : Lt) (s : State) : Host.Outcome State Fault Refusal :=
  if s.resetLow || s.line.receiving.isSome || !s.line.counts s.lt arrival then .next s
  else
    let (line, reports, loss) := (s.line.keepLt s.lt arrival).examine h
    .next { s with
      line := line
      reports := s.reports ++ reports
      classifier := { s.classifier with
        input := if loss then s.classifier.input ++ [.syncLoss false] else s.classifier.input } }

/-- CELL_DELIVERY: the last payload byte of the cell in reception is counted; filler is discarded, any other cell is delivered with
its damage marking (R124, R128). -/
def execCellDelivery (payload : List RxByte) (s : State) : Host.Outcome State Fault Refusal :=
  match s.line.receiving with
  | none => .next s
  | some r =>
    if payload.length ≠ Config.payloadBytes then .next s
    else if r.hdr.tag = 0 then
      .next { s with line := { s.line with
        receiving := none
        counters := { s.line.counters with fillerReceived := Counter.inc s.line.counters.fillerReceived } } }
    else
      let damaged := r.hdr.f || r.ierr || payload.any RxByte.ierr
      .next { s with
        line := { s.line with
          receiving := none
          counters := { s.line.counters with
            cellsDelivered := Counter.inc s.line.counters.cellsDelivered
            damagedCells := if damaged then Counter.inc s.line.counters.damagedCells else s.line.counters.damagedCells } }
        classifier := { s.classifier with
          input := s.classifier.input ++ [.cell ⟨{ r.hdr with f := damaged }, payload.map RxByte.data⟩ r.arrival] } }

/-- TREF_EDGE: LT advances by one, wrapping; it stays 0 while RESET_N is low (R66, R68). The ticks since the position last examined are
the model's count (log 6). -/
def execTrefEdge (s : State) : Host.Outcome State Fault Refusal :=
  if s.resetLow then .next s else .next { s with lt := s.lt + 1, line := { s.line with examinedAgo := s.line.examinedAgo + 1 } }

end Sys2Proof.Machine
end

