-- ==== Sys2Proof/Machine/MapEngine.lean ====
section
/-! DEFINITION. The Map Store's own steps: commit validation, the swap and tracking inheritance, COMMIT_DUE and SYNC_LOSS_RESYNC (R18 to R23, R41). -/

namespace Sys2Proof.Machine

/-- The first check of R18's table that an entry of the shadow bank fails, if any. -/
def offence (s : State) (e : Entry) : Option ConflictCheck :=
  let others := s.map.shadowBank.entries.filter fun x => x.fields.inputTag != e.fields.inputTag
  let tag := e.fields.effectiveTag
  if e.fields.forwards && others.any fun x => x.fields.forwards && x.fields.effectiveTag == tag then some .sharedOutputTag
  else if e.fields.forwards && tag == s.agent.replyTag then some .replyTag
  else if e.fields.forwards && (s.carousel.holder tag).isSome then some .carouselTag
  else if e.fields.inputTag == s.agent.cmdTag then some .commandTag
  else if e.fields.captures && others.any fun x => x.fields.captures && x.fields.context == e.fields.context then
    some .sharedContext
  else none

/-- Commit validation: the first offending entry's check and input tag, none where the shadow bank passes. Entries stand in
ascending input tag, so the first offender has the lowest (R18). -/
def validate (s : State) : Option (ConflictCheck × Tag) :=
  s.map.shadowBank.entries.findSome? fun e => (offence s e).map fun c => (c, e.fields.inputTag)

/-- A new active entry with the tracking it inherits from the old active bank (R23). -/
def inheritTracking (old : Bank) (e : Entry) : Entry :=
  match old.find e.fields.inputTag with
  | none => e
  | some o =>
    if o.fields.numbering = .renumber ∧ e.fields.numbering = .renumber ∧ o.fields.effectiveTag = e.fields.effectiveTag then
      { e with track := o.track }
    else { e with track := { e.track with mode := o.track.mode } }

/-- The bank that a swap makes active (R22, R23). -/
def MapStore.swapped (m : MapStore) : Bank := m.shadowBank.mapEntries (inheritTracking m.activeBank)

/-- The swap: the selector names the other bank, with inherited tracking, and the bindings go to the Capture Engine (R22). -/
def State.swap (s : State) : State :=
  let bank := s.map.swapped
  { s with
    map := { s.map.setBank s.map.shadowId bank with active := s.map.shadowId }
    capture := { s.capture with input := s.capture.input ++ [.bindings bank.bindings] } }

/-- COMMIT_DUE: a pending commit whose due time is reached is validated again and swapped or failed (R21). -/
def execCommitDue (s : State) : Host.Outcome State Fault Refusal :=
  match s.map.pendingCommit with
  | none => .next s
  | some p =>
    if reached s.lt p.due then
      let s1 := { s with map := { s.map with pendingCommit := none } }
      match validate s with
      | none => .next (s1.swap.finishOp .commit .done)
      | some (_, tag) => .next (s1.finishOp .commit (.failed tag))
    else .next s

/-- A tracking record at a sync loss (R41). -/
def Tracking.resync (t : Tracking) : Tracking :=
  match t.mode with
  | .tracking last => { t with mode := .resync last }
  | .unseen | .resync _ => t

/-- A bank at a sync loss (R41). -/
def Bank.resync (b : Bank) : Bank := b.mapEntries fun e => { e with track := e.track.resync }

/-- A bank at a WARM restart: every tracking record fresh (R28). -/
def Bank.freshTracking (b : Bank) : Bank := b.mapEntries fun e => { e with track := Tracking.fresh }

/-- SYNC_LOSS_RESYNC: the Map Store takes a sync loss once every cell delivered before it has been classified (R41, R127). The
Capture Engine's own report, if not yet taken, then stands behind the hand-offs of those cells (log 26). -/
def execSyncLossResync (s : State) : Host.Outcome State Fault Refusal :=
  match s.classifier.input with
  | .syncLoss captureTook :: rest =>
    .next { s with
      classifier := { s.classifier with input := rest }
      map := { s.map with bankA := s.map.bankA.resync, bankB := s.map.bankB.resync }
      capture := { s.capture with input := if captureTook then s.capture.input else s.capture.input ++ [.syncLoss] } }
  | _ => .next s

end Sys2Proof.Machine
end

