-- ==== Sys2Proof/Machine/SchedulerEngine.lean ====
section
/-! DEFINITION. The Output Scheduler's step SLOT_DECISION: arbitration, stale decision, restamping, filler (R56 to R62, R64, R70 to R76), and the output line (R132 to R134). -/

namespace Sys2Proof.Machine

/-- A media cell's residence at a departure LT (R71). -/
def MediaCell.residence (m : MediaCell) (departure : Lt) : Lt := departure - m.arrival

/-- A media cell is stale: its residence exceeds its limit (R73). -/
def MediaCell.isStale (m : MediaCell) (departure : Lt) : Bool := decide (m.staleLimit < (m.residence departure).toNat)

/-- A media cell is discarded at its stale decision (R73). -/
def MediaCell.discarded (m : MediaCell) (departure : Lt) : Bool := m.isStale departure && m.stale == .dropStale

/-- The clock stamp of a payload (R75, R209). -/
def readStamp (payload : List Byte) : Lt := BitVec.ofNat 48 (beVal (payload.take 6))

/-- The restamped payload: residence added to payload bytes 0 to 5 (R75). -/
def restampPayload (payload : List Byte) (residence : Lt) : List Byte :=
  ltBytes (readStamp payload + residence) ++ payload.drop 6

/-- A media cell that asks for restamping: restamp on and K set (R75, R76). -/
def MediaCell.wantsStamp (m : MediaCell) : Bool := m.restamp && m.cell.hdr.k

/-- A media cell too short for a stamp it should carry (R76). -/
def MediaCell.shortStamp (m : MediaCell) : Bool := m.wantsStamp && decide (m.cell.hdr.len.toNat < 6)

/-- The cell a media cell is sent as at a departure LT (R60, R75, R76). -/
def MediaCell.sent (m : MediaCell) (departure : Lt) : Cell :=
  if m.wantsStamp && !m.shortStamp then { m.cell with payload := restampPayload m.cell.payload (m.residence departure) }
  else m.cell

/-- The media queue after the stale decisions of one slot, and how many cells they discarded (R59, R74). -/
def dropStaleHeads (departure : Lt) : List MediaCell → List MediaCell × Nat
  | [] => ([], 0)
  | m :: ms =>
    if m.discarded departure then ((dropStaleHeads departure ms).1, (dropStaleHeads departure ms).2 + 1) else (m :: ms, 0)

/-- What a slot carries (R57). -/
inductive SlotChoice where
  | mgmt (c : MgmtCell)
  | table (c : TableCell)
  | media (c : MediaCell)
  | filler
deriving DecidableEq, Repr

/-- A slot decision: what the slot carries, the queues after it, and the media cells discarded for it. -/
structure Decision where
  choice : SlotChoice
  queues : Queues
  discards : Nat
deriving DecidableEq, Repr

/-- The Scheduler's arbitration (R57), with the decision remade after each stale discard (R59). -/
def decideSlot (q : Queues) (shareCount share : Nat) (departure : Lt) : Decision :=
  match q.mgmt with
  | c :: rest => ⟨.mgmt c, { q with mgmt := rest }, 0⟩
  | [] =>
    match q.table with
    | t :: ts =>
      if q.media = [] ∨ shareCount = share then ⟨.table t, { q with table := ts }, 0⟩
      else
        match dropStaleHeads departure q.media with
        | (m :: ms, n) => ⟨.media m, { q with media := ms }, n⟩
        | ([], n) => ⟨.table t, { q with table := ts, media := [] }, n⟩
    | [] =>
      match dropStaleHeads departure q.media with
      | (m :: ms, n) => ⟨.media m, { q with media := ms }, n⟩
      | ([], n) => ⟨.filler, { q with media := [] }, n⟩

/-- The decision of the next slot: the first slot after a hard reset carries filler (R64, R133), whatever is queued (log 9); every
other is arbitrated (R57). -/
def State.decideNext (s : State) : Decision :=
  match s.sched.outSlot with
  | none => ⟨.filler, s.queues, 0⟩
  | some _ => decideSlot s.queues s.sched.shareCount s.agent.settings.tableShare s.lt

/-- The 128 bytes and the restart mark of a slot (R60, R61). -/
def SlotChoice.outSlot (departure : Lt) : SlotChoice → OutSlot
  | .mgmt c => ⟨cellBytes c.cell c.outTag c.outSeq, c.mark⟩
  | .table c => ⟨cellBytes c.cell c.outTag c.outSeq, none⟩
  | .media c => ⟨cellBytes (c.sent departure) c.outTag c.outSeq, none⟩
  | .filler => ⟨cellBytes fillerCell 0 0, none⟩

/-- The table-share counter after a slot (R58). -/
def SlotChoice.shareAfter (shareCount share : Nat) : SlotChoice → Nat
  | .table _ => 0
  | .mgmt _ | .media _ | .filler => min (shareCount + 1) share

/-- The output counters after a slot (R62, R73, R76). -/
def OutCounters.after (c : OutCounters) (d : Decision) (departure : Lt) : OutCounters :=
  let c := { c with staleDropped := Counter.add c.staleDropped d.discards }
  match d.choice with
  | .mgmt _ => { c with managementSent := Counter.inc c.managementSent }
  | .table _ => { c with tableSent := Counter.inc c.tableSent }
  | .media m =>
    { c with
      mediaSent := Counter.inc c.mediaSent
      staleSent := if m.isStale departure then Counter.inc c.staleSent else c.staleSent
      shortStamp := if m.shortStamp then Counter.inc c.shortStamp else c.shortStamp }
  | .filler => { c with fillerSent := Counter.inc c.fillerSent }

/-- The restart a slot under way asks for at its end (R63). -/
def Scheduler.restartMark (s : Scheduler) : Option RestartKind := s.outSlot.bind OutSlot.mark

/-- SLOT_DECISION: the next output slot begins, with LT as its departure LT (R56, R70). No slot begins while RESET_N is low (R133),
nor before a restart asked for by the slot under way is taken at its end (R63; log 24). -/
def execSlotDecision (s : State) : Host.Outcome State Fault Refusal :=
  if s.resetLow || s.sched.restartMark.isSome then .next s
  else
    let share := s.agent.settings.tableShare
    let d := s.decideNext
    .next { s with
      queues := d.queues
      sched := ⟨d.choice.shareAfter s.sched.shareCount share, s.sched.counters.after d s.lt, some (d.choice.outSlot s.lt)⟩
      reports := s.reports ++ List.replicate d.discards (.event .staleDrops)
      classifier := { s.classifier with
        queueEmpties :=
          if s.queues.media ≠ [] ∧ d.queues.media = [] then s.classifier.queueEmpties + 1 else s.classifier.queueEmpties } }

/-! ## The output line -/

/-- The lines at byte time `k` of a slot: its byte, with OSTART high for the first and low for the other 127 (R132). -/
def OutSlot.lines (o : OutSlot) (k : Nat) : OutLines := ⟨o.bytes.getD k 0, decide (k = 0)⟩

/-- The lines as driven at byte time `k` of the slot under way: 0x00 and OSTART low while RESET_N is low, and as they stood then until
the first slot begins (R132 to R134). -/
def State.outLines (s : State) (k : Nat) : OutLines :=
  if s.resetLow then ⟨0x00, false⟩
  else
    match s.sched.outSlot with
    | none => ⟨0x00, false⟩
    | some o => o.lines k

end Sys2Proof.Machine
end

