-- ==== Sys2Proof/Machine/Resets.lean ====
section
/-! DEFINITION. HARD_RESET, RESET_N_RELEASE, WARM_RESTART and COLD_RESTART (R27, R28, R63 to R65, R68, R97, R98, R117, R118, R130, R131, R133, R158, R159). -/

namespace Sys2Proof.Machine

/-- HARD_RESET: every block at its reset state, RESET_N low (R130, R133). -/
def execHardReset (s : State) : Host.Outcome State Fault Refusal :=
  .next { State.reset with resetLow := true, pending := s.pending }

/-- RESET_N_RELEASE: counting, slots and LT run from now on (R68, R130, R133). -/
def execResetNRelease (s : State) : Host.Outcome State Fault Refusal := .next { s with resetLow := false }

/-- The slot that carried the restart's reply has ended; its bytes are what the line last carried, and the mark is spent (R63). -/
def Scheduler.spendMark (s : Scheduler) : Option OutSlot := s.outSlot.map fun o => { o with mark := none }

/-- COLD_RESTART: at the end of the slot carrying the reply marked COLD, every block returns to its hard-reset state; slots continue
(R64, R68, R159). -/
def execColdRestart (s : State) : Host.Outcome State Fault Refusal :=
  if s.sched.restartMark = some .cold then
    .next { State.reset with
      resetLow := s.resetLow
      sched := { Scheduler.reset with outSlot := s.sched.spendMark }
      pending := s.pending }
  else .next s

/-- A context at a WARM restart: filter, counters and last loss kept, ASSEMBLING becomes ARMED, last version cleared (R98). -/
def Context.warm (c : Context) : Context :=
  { c with
    lastVersion := none
    state :=
      match c.state with
      | .assembling _ => .armed
      | .armed => .armed
      | .idle => .idle }

/-- A context with a binding. -/
def Context.bind (c : Context) (b : Option Tag) : Context := { c with binding := b }

/-- The Capture Engine at a WARM restart; bindings follow the kept active bank (R98; log 22). -/
def Capture.warm (c : Capture) (bindings : Vector (Option Tag) 8) : Capture :=
  ⟨⟨⟨contextNumbers.map fun i => (Context.warm c.contexts[i]).bind bindings[i]⟩, rfl⟩, Vector.replicate 4 none, [], []⟩

/-- The Map Store at a WARM restart (R28). -/
def MapStore.warm (m : MapStore) : MapStore :=
  { m with bankA := m.bankA.freshTracking, bankB := m.bankB.freshTracking, pendingCommit := none }

/-- The Agent at a WARM restart; the notice number keeps its value (R158; log 11). -/
def Agent.warm (a : Agent) : Agent :=
  { a with
    mode := .serving, session := none, cmdQueue := [], longOp := .none
    conds := Vector.replicate 8 CondEntry.reset }

/-- The part at a WARM restart, before the Carousel Engine chooses (R158; work between blocks is discarded, log 10). -/
def State.warm (s : State) : State :=
  { s with
    line := { LineReceiver.reset with examinedLt := s.lt, counters := s.line.counters }
    classifier := Classifier.reset
    map := s.map.warm
    capture := s.capture.warm s.map.activeBank.bindings
    carousel := s.carousel.warm s.lt
    queues := Queues.reset
    sched := { s.sched with shareCount := s.agent.settings.tableShare, outSlot := s.sched.spendMark }
    agent := s.agent.warm
    reports := [] }

/-- WARM_RESTART: at the end of the slot carrying the reply marked WARM (R63, R65, R118, R158). -/
def execWarmRestart (s : State) : Host.Outcome State Fault Refusal :=
  if s.sched.restartMark = some .warm then .next s.warm.choose else .next s

end Sys2Proof.Machine
end

