-- ==== Sys2Proof/Machine/MapCommands.lean ====
section
/-! DEFINITION. Map commands: MAP_PUT, MAP_REMOVE, MAP_CLEAR, MAP_COPY, MAP_DEFAULT, MAP_READ, COMMIT, COMMIT_CANCEL (R11 to R25, R180 to R186). -/

namespace Sys2Proof.Machine

/-- The Map Store takes edits, MAP_READ and an entry's COUNT_CLEAR only after the admission of every cell already classified (R48). -/
def admissionsDone (s : State) : Bool := s.classifier.offered.isEmpty

/-- An edit is refused BUSY while a commit is pending (R12, R174), else taken on the shadow bank, which it leaves as given. -/
def editShadow (f : Bank → Answer × Bank) (s : State) : Answer × State :=
  match s.map.pendingCommit with
  | some p => (refusedWith .busy ([p.cmdSeq] ++ ltBytes p.due), s)
  | none =>
    let (a, b) := f s.map.shadowBank
    (a, s.setBank s.map.shadowId b)

/-- MAP_PUT on the shadow bank (R13, R180); the flag's polarity is a free value (log 15). -/
def putEntry (f : EntryFields) (cmdTag : Tag) (b : Bank) : Answer × Bank :=
  let known := (b.find f.inputTag).isSome
  if f.inputTag = cmdTag then (refusedWith .conflict (conflictBytes .commandTag f.inputTag.toNat), b)
  else if b.entries.length ≥ Config.bankEntries ∧ known = false then (refusedWith .mapFull [], b)
  else
    let b' := { b with entries := insertEntry (Entry.fresh f) b.entries }
    (doneWith ([flagByte (!known == Config.insertedIsSet)] ++ countBytes b'.entries.length), b')

/-- MAP_PUT (R13, R180). -/
def mapPutRequest : Request EntryFields where
  parse := mapPutArgs
  ready _ := admissionsDone
  act _ f s := editShadow (putEntry f s.agent.cmdTag) s

/-- MAP_PUT (R13, R180). -/
def execMapPut (s : State) : Host.Outcome State Fault Refusal := .next (s.sessionCommand 0x21 mapPutRequest)

/-- MAP_REMOVE on the shadow bank (R14, R181). -/
def removeEntry (t : Tag) (b : Bank) : Answer × Bank :=
  match b.find t with
  | none => (refusedWith .notFound [], b)
  | some _ =>
    let b' := { b with entries := b.entries.filter fun e => e.fields.inputTag != t }
    (doneWith (countBytes b'.entries.length), b')

/-- MAP_REMOVE (R14, R181). -/
def mapRemoveRequest : Request Tag where
  parse := oneArg readTag
  ready _ := admissionsDone
  act _ t s := editShadow (removeEntry t) s

/-- MAP_REMOVE (R14, R181). -/
def execMapRemove (s : State) : Host.Outcome State Fault Refusal := .next (s.sessionCommand 0x22 mapRemoveRequest)

/-- MAP_CLEAR (R15, R182). -/
def mapClearRequest : Request Unit where
  parse := noArgs
  ready _ := admissionsDone
  act _ _ s := editShadow (fun b => (doneWith [], { b with entries := [], default := .drop })) s

/-- MAP_CLEAR (R15, R182). -/
def execMapClear (s : State) : Host.Outcome State Fault Refusal := .next (s.sessionCommand 0x23 mapClearRequest)

/-- The shadow bank as a copy of the active bank, its bank counters kept (R16). -/
def copyBank (active shadow : Bank) : Bank :=
  { shadow with entries := active.entries.map fun e => Entry.fresh e.fields, default := active.default }

/-- MAP_COPY (R16, R182). -/
def mapCopyRequest : Request Unit where
  parse := noArgs
  ready _ := admissionsDone
  act _ _ s :=
    editShadow (fun b =>
      (doneWith (countBytes s.map.activeBank.entries.length ++ [s.map.activeBank.default.toByte]),
       copyBank s.map.activeBank b)) s

/-- MAP_COPY (R16, R182). -/
def execMapCopy (s : State) : Host.Outcome State Fault Refusal := .next (s.sessionCommand 0x24 mapCopyRequest)

/-- MAP_DEFAULT (R17, R183). -/
def mapDefaultRequest : Request DefaultAction where
  parse := oneArg readDefault
  ready _ := admissionsDone
  act _ d s := editShadow (fun b => (doneWith [b.default.toByte], { b with default := d })) s

/-- MAP_DEFAULT (R17, R183). -/
def execMapDefault (s : State) : Host.Outcome State Fault Refusal := .next (s.sessionCommand 0x25 mapDefaultRequest)

/-- MAP_READ (R11, R184). -/
def mapReadRequest : Request (BankId × Tag) where
  parse := twoArgs readBank readTag
  ready _ := admissionsDone
  act _ x s :=
    match (s.map.bank x.1).find x.2 with
    | some e => (doneWith (mapReadResult x.1 (decide (x.1 = s.map.active)) e), s)
    | none => (refusedWith .notFound [], s)

/-- MAP_READ (R11, R184). -/
def execMapRead (s : State) : Host.Outcome State Fault Refusal := .next (s.sessionCommand 0x26 mapReadRequest)

/-- BUSY, refused by the Agent for a long operation (R149, R174). -/
def busyAnswer (l : LongOp) : Answer :=
  refusedWith .busy ([l.stateByte] ++ (l.kind.map OpKind.toByte).toList ++ l.seq.toList)

/-- COMMIT's result on success; the code of immediate or scheduled is a free value (R185; log 12, log 14). -/
def commitResult (due : Option Lt) (bank : Option BankId) : List Byte :=
  [Config.commitTimingCode due.isSome] ++ optBytes 6 ltBytes due ++ optBytes 1 (fun x => [BankId.toByte x]) bank

/-- COMMIT with the long-operation record NONE: validated, then swapped at once or made pending (R19, R20, R185). -/
def commitNow (c : Command) (due : Option Lt) (s : State) : Answer × State :=
  match validate s with
  | some (check, tag) => (refusedWith .conflict (conflictBytes check tag.toNat), s)
  | none =>
    match due.filter fun t => !reached s.lt t with
    | none =>
      let s' := s.swap
      (acceptedWith (commitResult none (some s'.map.active)),
       { s' with agent := { s'.agent with longOp := .ended .commit c.seq .done } })
    | some t =>
      (acceptedWith (commitResult (some t) none),
       { s with
         map := { s.map with pendingCommit := some ⟨t, c.seq⟩ }
         agent := { s.agent with longOp := .inFlight .commit c.seq } })

/-- COMMIT (R19, R149, R185). -/
def commitRequest : Request (Option Lt) where
  parse := oneArg (readOptional 6 (readWhere (readNat 6) fun v => some (BitVec.ofNat 48 v)))
  act c due s :=
    match s.agent.longOp with
    | .none => commitNow c due s
    | l => (busyAnswer l, s)

/-- COMMIT (R19, R185). -/
def execCommit (s : State) : Host.Outcome State Fault Refusal := .next (s.sessionCommand 0x27 commitRequest)

/-- COMMIT_CANCEL's refusal: the record's state and kind (R186). -/
def cancelRefusal (l : LongOp) : Answer :=
  refusedWith .wrongState ([l.stateByte] ++ optBytes 1 (fun k => [OpKind.toByte k]) l.kind)

/-- COMMIT_CANCEL (R25, R186). -/
def commitCancelRequest : Request Unit where
  parse := noArgs
  act _ _ s :=
    match s.agent.longOp, s.map.pendingCommit with
    | .inFlight .commit _, some p =>
      (doneWith ([p.cmdSeq] ++ ltBytes p.due),
       State.finishOp { s with map := { s.map with pendingCommit := none } } .commit .cancelled)
    | l, _ => (cancelRefusal l, s)

/-- COMMIT_CANCEL (R25, R186). -/
def execCommitCancel (s : State) : Host.Outcome State Fault Refusal := .next (s.sessionCommand 0x28 commitCancelRequest)

end Sys2Proof.Machine
end

