-- ==== Sys2Proof/Machine/SupervisionCommands.lean ====
section
/-! DEFINITION. Forwarding, condition, counter, configuration and restart commands: PAUSE, RESUME, COND_READ, COND_ACK, COUNT_READ, COUNT_CLEAR, CONFIG_SET, CONFIG_GET, TAGS_SET, RESTART (R52 to R55, R155 to R157, R163 to R172, R196 to R202). -/

namespace Sys2Proof.Machine

/-! ## Forwarding (R52, R54, R55, R196) -/

/-- The state with an admission state. -/
def State.setAdmission (s : State) (a : Admission) : State := { s with classifier := { s.classifier with admission := a } }

/-- PAUSE with the long-operation record NONE (R52, R55). -/
def pauseNow (c : Command) (s : State) : Answer × State :=
  let result (a : Admission) : List Byte := [a.toByte] ++ beBytes 2 s.queues.media.length
  let drain := { s.setAdmission .pausing with agent := { s.agent with longOp := .inFlight .pause c.seq } }
  match s.classifier.admission with
  | .forwarding =>
    if s.queues.media = [] then (doneWith (result .paused), s.setAdmission .paused)
    else (acceptedWith (result .pausing), drain)
  | .pausing => (acceptedWith (result .pausing), drain)
  | .paused => (doneWith (result .paused), s)

/-- PAUSE (R52, R149, R196). -/
def pauseRequest : Request Unit where
  parse := noArgs
  act c _ s :=
    match s.agent.longOp with
    | .none => pauseNow c s
    | l => (busyAnswer l, s)

/-- PAUSE (R52, R196). -/
def execPause (s : State) : Host.Outcome State Fault Refusal := .next (s.sessionCommand 0x51 pauseRequest)

/-- A PAUSE is recorded as in flight (R148). -/
def LongOp.pausing : LongOp → Bool
  | .inFlight .pause _ => true
  | .inFlight .commit _ | .none | .ended _ _ _ => false

/-- RESUME (R52, R54, R196). -/
def resumeRequest : Request Unit where
  parse := noArgs
  act _ _ s :=
    let aborts := decide (s.classifier.admission = .pausing) && s.agent.longOp.pausing
    let s' := s.setAdmission .forwarding
    (doneWith [s.classifier.admission.toByte, flagByte aborts],
     if s.classifier.admission = .pausing then s'.finishOp .pause .aborted else s')

/-- RESUME (R52, R54, R196). -/
def execResume (s : State) : Host.Outcome State Fault Refusal := .next (s.sessionCommand 0x52 resumeRequest)

/-! ## Conditions (R163, R166, R197) -/

/-- COND_READ (R166, R197). -/
def condReadRequest : Request Unit where
  parse := noArgs
  act _ _ s := (doneWith (condKinds.flatMap fun k => condBytes k (s.agent.cond k)), s)

/-- COND_READ (R166, R197). -/
def execCondRead (s : State) : Host.Outcome State Fault Refusal := .next (s.sessionCommand 0x61 condReadRequest)

/-- COND_ACK (R163, R197). -/
def condAckRequest : Request CondKind where
  parse := oneArg readCond
  act _ k s :=
    let e := s.agent.cond k
    (doneWith ([e.state.toByte] ++ counterBytes e.count ++ optBytes 6 ltBytes e.firstLt),
     { s with agent := s.agent.setCond k (e.acknowledge k) })

/-- COND_ACK (R163, R197). -/
def execCondAck (s : State) : Host.Outcome State Fault Refusal := .next (s.sessionCommand 0x62 condAckRequest)

/-! ## Counters (R168 to R170, R198, R199) -/

/-- A last loss on the wire: reason code and LT, all zero where absent (R209). -/
def lossBytes : Option (LossReason × Lt) → List Byte
  | some (r, t) => r.toByte :: ltBytes t
  | none => List.replicate 7 0

/-- A context as COUNT_READ reports it: counters, state, last loss (R95, R169). -/
def contextCounts (c : Context) : List Byte :=
  counterBytes c.counters.delivered ++ counterBytes c.counters.abandoned ++ counterBytes c.counters.overruns
    ++ counterBytes c.counters.repeats ++ [c.state.toByte] ++ lossBytes c.lastLoss

/-- A slot as COUNT_READ reports it: state, then its counters, absent in EMPTY (R116, R169; log 12). -/
def slotCounts (d : Option SlotData) : List Byte :=
  [slotStateByte d] ++ optBytes 4 (fun d : SlotData => counterBytes d.emissions) d
    ++ optBytes 4 (fun d : SlotData => counterBytes d.lateEvents) d

/-- A bank's counters in the order of their owner's rule, R4 (R198). -/
def bankCounts (b : Bank) : List Byte :=
  counterBytes b.counters.unmappedDropped ++ counterBytes b.counters.unmappedForwarded ++ counterBytes b.counters.collisionDrops

/-- One counter group, or one part of it, as its owner holds it; entries are read with MAP_READ (R169). The members of a part lie in
ascending number: DESIGN CHOICE (log 33), unsafe. -/
def groupCounts (s : State) (part : Byte) : CounterGroup → List Byte
  | .input =>
    let c := s.line.counters
    counterBytes c.cellsDelivered ++ counterBytes c.fillerReceived ++ counterBytes c.headerErrors
      ++ counterBytes c.syncLosses ++ counterBytes c.damagedCells
  | .output =>
    let c := s.sched.counters
    counterBytes c.managementSent ++ counterBytes c.tableSent ++ counterBytes c.mediaSent ++ counterBytes c.fillerSent
      ++ counterBytes c.staleDropped ++ counterBytes c.staleSent ++ counterBytes c.shortStamp
  | .bankA => bankCounts s.map.bankA
  | .bankB => bankCounts s.map.bankB
  | .entry => []
  | .contexts =>
    ((contextNumbers.drop (4 * part.toNat)).take 4).flatMap fun i => contextCounts s.capture.contexts[i]
  | .slots => ((slotNumbers.drop (8 * part.toNat)).take 8).flatMap fun i => slotCounts s.carousel.slots[i]
  | .agent =>
    let c := s.agent.counters
    counterBytes c.executed ++ counterBytes c.refused ++ counterBytes c.discarded ++ counterBytes c.repeats

/-- COUNT_READ (R169, R198). -/
def countReadRequest : Request (CounterGroup × Byte) where
  parse := countReadArgs
  act _ x s := (doneWith ([x.1.toByte, x.2] ++ groupCounts s x.2 x.1), s)

/-- COUNT_READ (R169, R198). -/
def execCountRead (s : State) : Host.Outcome State Fault Refusal := .next (s.sessionCommand 0x63 countReadRequest)

/-- A bank with its three counters 0 (R4). -/
def Bank.clearCounters (b : Bank) : Bank := { b with counters := ⟨0, 0, 0⟩ }

/-- A context with its counters 0 and its last loss absent (R95). -/
def Context.clearCounters (c : Context) : Context := { c with counters := ⟨0, 0, 0, 0⟩, lastLoss := none }

/-- A slot with its counters 0 (R116). -/
def SlotData.clearCounters (d : SlotData) : SlotData := { d with emissions := 0, lateEvents := 0 }

/-- The clearing of a whole group (R170); entries are cleared one at a time. -/
def clearGroup (s : State) : CounterGroup → State
  | .input => { s with line := { s.line with counters := ⟨0, 0, 0, 0, 0⟩ } }
  | .output => { s with sched := { s.sched with counters := ⟨0, 0, 0, 0, 0, 0, 0⟩ } }
  | .bankA => s.setBank .a s.map.bankA.clearCounters
  | .bankB => s.setBank .b s.map.bankB.clearCounters
  | .entry => s
  | .contexts => { s with capture := { s.capture with contexts := mapAll Context.clearCounters s.capture.contexts } }
  | .slots => { s with carousel := { s.carousel with slots := mapAll (Option.map SlotData.clearCounters) s.carousel.slots } }
  | .agent => { s with agent := { s.agent with counters := ⟨0, 0, 0, 0⟩ } }

/-- The Map Store clears an entry's counters only after the admission of every classified cell (R48). -/
def clearReady : ClearScope → State → Bool
  | .entry _ _, s => admissionsDone s
  | .group _, _ => true

/-- COUNT_CLEAR (R170, R199). -/
def countClearRequest : Request ClearScope where
  parse := countClearArgs
  ready := clearReady
  act _ x s :=
    match x with
    | .group g => (doneWith [], clearGroup s g)
    | .entry bank tag =>
      match (s.map.bank bank).find tag with
      | none => (refusedWith .notFound [], s)
      | some _ =>
        (doneWith [],
         s.setBank bank ((s.map.bank bank).modify tag fun e => { e with counters := EntryCounters.zero }))

/-- COUNT_CLEAR (R170, R199). -/
def execCountClear (s : State) : Host.Outcome State Fault Refusal := .next (s.sessionCommand 0x64 countClearRequest)

/-! ## Configuration (R171, R172, R200) -/

/-- The value of a configuration item. -/
def Settings.get (c : Settings) : SettingItem → Nat
  | .staleLimit => c.staleLimit
  | .tableShare => c.tableShare
  | .sessionTimeout => c.sessionTimeout
  | .assemblyTimeout => c.assemblyTimeout

/-- The settings with one item changed. -/
def Settings.set (c : Settings) (v : Nat) : SettingItem → Settings
  | .staleLimit => { c with staleLimit := v }
  | .tableShare => { c with tableShare := v }
  | .sessionTimeout => { c with sessionTimeout := v }
  | .assemblyTimeout => { c with assemblyTimeout := v }

/-- CONFIG_SET stores the value; a new TABLE_SHARE below the table-share counter lowers it (R58, R171). -/
def State.configure (s : State) (i : SettingItem) (v : Nat) : State :=
  { s with
    agent := { s.agent with settings := s.agent.settings.set v i }
    sched := if i = .tableShare then { s.sched with shareCount := min s.sched.shareCount v } else s.sched }

/-- CONFIG_SET (R171, R200). -/
def configSetRequest : Request (SettingItem × Nat) where
  parse := configSetArgs
  act _ x s := (doneWith (beBytes 4 (s.agent.settings.get x.1)), s.configure x.1 x.2)

/-- CONFIG_SET (R171, R200). -/
def execConfigSet (s : State) : Host.Outcome State Fault Refusal := .next (s.sessionCommand 0x71 configSetRequest)

/-- CONFIG_GET: value, range and default (R172, R200). The range lies as two 4-byte values, the lower limit first: DESIGN CHOICE
(log 30), unsafe. -/
def configGetRequest : Request SettingItem where
  parse := oneArg readItem
  act _ i s :=
    (doneWith (beBytes 4 (s.agent.settings.get i) ++ beBytes 4 i.range.1 ++ beBytes 4 i.range.2
      ++ beBytes 4 (Settings.reset.get i)), s)

/-- CONFIG_GET (R172, R200). -/
def execConfigGet (s : State) : Host.Outcome State Fault Refusal := .next (s.sessionCommand 0x72 configGetRequest)

/-- What a TAGS_SET clashes with, in R155's order, as the CONFLICT refusal reports it (R155, R201, R209). -/
def tagsClash (s : State) (cmd reply : Tag) : Option (List Byte) :=
  if cmd = reply ∨ cmd = 0 ∨ reply = 0 then some (conflictBytes .tagsEqualOrZero 0)
  else
    match s.map.activeBank.find cmd with
    | some e => some (conflictBytes .commandTag e.fields.inputTag.toNat)
    | none =>
      match s.map.activeBank.forwarder reply with
      | some e => some (conflictBytes .activeEntry e.fields.inputTag.toNat)
      | none => (s.carousel.holder reply).map fun i => conflictBytes .activeSlot i.val

/-- TAGS_SET; its reply goes out under the old reply tag, which `State.judge` fixes before the request (R155, R156, R201). -/
def tagsSetRequest : Request (Tag × Tag) where
  parse := twoArgs readTagOrZero readTagOrZero
  act _ x s :=
    match tagsClash s x.1 x.2 with
    | some r => (refusedWith .conflict r, s)
    | none =>
      (doneWith (tagBytes s.agent.cmdTag ++ tagBytes s.agent.replyTag),
       { s with agent := { s.agent with cmdTag := x.1, replyTag := x.2 } })

/-- TAGS_SET (R155, R201). -/
def execTagsSet (s : State) : Host.Outcome State Fault Refusal := .next (s.sessionCommand 0x73 tagsSetRequest)

/-- The Agent enters RESTARTING: queued command cells are discarded and counted (R157). -/
def State.enterRestarting (s : State) : State :=
  let a := s.agent.countDiscarded s.agent.cmdQueue.length
  { s with agent := { a with mode := .restarting, cmdQueue := [] } }

/-- RESTART: DONE with the kind, the reply marked for restart, then RESTARTING (R157, R202). -/
def restartRequest : Request RestartKind where
  parse := oneArg readRestart
  act _ k s := (doneWith [k.toByte], s)
  mark k := some k
  after := State.enterRestarting

/-- RESTART (R157, R202). -/
def execRestart (s : State) : Host.Outcome State Fault Refusal := .next (s.sessionCommand 0x74 restartRequest)

end Sys2Proof.Machine
end

