-- ==== Sys2Proof/Machine/Dispatch.lean ====
section
/-! DEFINITION. The meaning of every command: one arm per row of spec/opcode_table.json. -/

namespace Sys2Proof.Machine

def exec (i : Instr) (s : State) : Host.Outcome State Fault Refusal :=
  match i with
  | .hardReset => Sys2Proof.Machine.execHardReset s
  | .resetNRelease => Sys2Proof.Machine.execResetNRelease s
  | .headerExamination h markerLt => Sys2Proof.Machine.execHeaderExamination h markerLt s
  | .cellDelivery payload => Sys2Proof.Machine.execCellDelivery payload s
  | .cellClassification => Sys2Proof.Machine.execCellClassification s
  | .mediaAdmission => Sys2Proof.Machine.execMediaAdmission s
  | .captureHandoff => Sys2Proof.Machine.execCaptureHandoff s
  | .assemblyDeadlineReached ctx => Sys2Proof.Machine.execAssemblyDeadlineReached ctx s
  | .captureBindingUpdate => Sys2Proof.Machine.execCaptureBindingUpdate s
  | .syncLossCaptureAbandon => Sys2Proof.Machine.execSyncLossCaptureAbandon s
  | .syncLossResync => Sys2Proof.Machine.execSyncLossResync s
  | .commitDue => Sys2Proof.Machine.execCommitDue s
  | .slotDecision => Sys2Proof.Machine.execSlotDecision s
  | .queueEmptyEvent => Sys2Proof.Machine.execQueueEmptyEvent s
  | .slotDue slot => Sys2Proof.Machine.execSlotDue slot s
  | .tableCellPlacement => Sys2Proof.Machine.execTableCellPlacement s
  | .conditionEvent kind => Sys2Proof.Machine.execConditionEvent kind s
  | .lineCauseGone => Sys2Proof.Machine.execLineCauseGone s
  | .sessionExpiry => Sys2Proof.Machine.execSessionExpiry s
  | .completionNotice => Sys2Proof.Machine.execCompletionNotice s
  | .captureReadyNotice => Sys2Proof.Machine.execCaptureReadyNotice s
  | .conditionNotice => Sys2Proof.Machine.execConditionNotice s
  | .warmRestart => Sys2Proof.Machine.execWarmRestart s
  | .coldRestart => Sys2Proof.Machine.execColdRestart s
  | .identify => Sys2Proof.Machine.execIdentify s
  | .openSession => Sys2Proof.Machine.execOpen s
  | .closeSession => Sys2Proof.Machine.execClose s
  | .ping => Sys2Proof.Machine.execPing s
  | .status => Sys2Proof.Machine.execStatus s
  | .mapPut => Sys2Proof.Machine.execMapPut s
  | .mapRemove => Sys2Proof.Machine.execMapRemove s
  | .mapClear => Sys2Proof.Machine.execMapClear s
  | .mapCopy => Sys2Proof.Machine.execMapCopy s
  | .mapDefault => Sys2Proof.Machine.execMapDefault s
  | .mapRead => Sys2Proof.Machine.execMapRead s
  | .commit => Sys2Proof.Machine.execCommit s
  | .commitCancel => Sys2Proof.Machine.execCommitCancel s
  | .ctxArm => Sys2Proof.Machine.execCtxArm s
  | .ctxDisarm => Sys2Proof.Machine.execCtxDisarm s
  | .storeRead => Sys2Proof.Machine.execStoreRead s
  | .storeRelease => Sys2Proof.Machine.execStoreRelease s
  | .slotDefine => Sys2Proof.Machine.execSlotDefine s
  | .slotWrite => Sys2Proof.Machine.execSlotWrite s
  | .slotPublish => Sys2Proof.Machine.execSlotPublish s
  | .slotStart => Sys2Proof.Machine.execSlotStart s
  | .slotStop => Sys2Proof.Machine.execSlotStop s
  | .slotClear => Sys2Proof.Machine.execSlotClear s
  | .slotQuery => Sys2Proof.Machine.execSlotQuery s
  | .pause => Sys2Proof.Machine.execPause s
  | .resume => Sys2Proof.Machine.execResume s
  | .condRead => Sys2Proof.Machine.execCondRead s
  | .condAck => Sys2Proof.Machine.execCondAck s
  | .countRead => Sys2Proof.Machine.execCountRead s
  | .countClear => Sys2Proof.Machine.execCountClear s
  | .configSet => Sys2Proof.Machine.execConfigSet s
  | .configGet => Sys2Proof.Machine.execConfigGet s
  | .tagsSet => Sys2Proof.Machine.execTagsSet s
  | .restart => Sys2Proof.Machine.execRestart s
  | .trefEdge => Sys2Proof.Machine.execTrefEdge s
  | .unknownCommand => Sys2Proof.Machine.execUnknownCommand s

end Sys2Proof.Machine
end

