-- ==== Sys2Proof/Safety.lean ====
section
/-! DEFINITION. What is claimed of the machine: the invariants that every step keeps, and the words in which the statements say what a command does. -/

namespace Sys2Proof.Safety

open Sys2Proof.Machine

/-! ## Invariants -/

/-- No queue holds more cells than its class has buffers, and the command queue at most 4 (R45, R135). -/
def QueuesBounded (s : State) : Prop :=
  s.queues.mgmt.length ≤ 8 ∧ s.queues.table.length ≤ 24 ∧ s.queues.media.length ≤ 480 ∧ s.agent.cmdQueue.length ≤ 4

/-- An entry obeys the constraints of R2. -/
def EntryLegal (f : EntryFields) : Prop :=
  f.inputTag ≠ 0 ∧ (∀ t, f.outputTag = some t → t ≠ 0 ∧ f.forwards = true)
    ∧ (∀ n, f.staleLimit = some n → 250 ≤ n ∧ n ≤ 2500000) ∧ f.context.isSome = f.captures

/-- A bank holds at most 256 legal entries in strictly ascending input tag (R1, R2). -/
def BankLegal (b : Bank) : Prop :=
  b.entries.Pairwise (fun x y => x.fields.inputTag < y.fields.inputTag) ∧ (∀ e ∈ b.entries, EntryLegal e.fields)
    ∧ b.entries.length ≤ 256

/-- The output tags that the active bank, the reply channel and the slots in RUNNING or STOPPING assign, one for each source (R9). -/
def outputTags (s : State) : List Tag :=
  (s.map.activeBank.entries.filter fun e => e.fields.forwards).map (fun e => e.fields.effectiveTag)
    ++ s.agent.replyTag :: s.carousel.assigned.map Prod.snd

/-- The contexts that the capturing entries of a bank name, one for each entry. -/
def namedContexts (b : Bank) : List (Option (Fin 8)) :=
  (b.entries.filter fun e => e.fields.captures).map fun e => e.fields.context

/-- The laws of R9 and R10 over two legal banks: each output tag has at most one source, no active entry stands on the command tag,
no two active entries name one context. -/
def TagLaws (s : State) : Prop :=
  BankLegal s.map.bankA ∧ BankLegal s.map.bankB ∧ (outputTags s).Nodup
    ∧ (∀ e ∈ s.map.activeBank.entries, e.fields.inputTag ≠ s.agent.cmdTag) ∧ (namedContexts s.map.activeBank).Nodup

/-- A partial message is shorter than its total, which is at most 2048; the filing list names each FILLED record once (R90, R91). -/
def CaptureSound (s : State) : Prop :=
  (∀ i : Fin 8, ∀ p, s.capture.contexts[i].state = .assembling p → p.held.length < 8 + p.bodyLen ∧ p.bodyLen ≤ 2040)
    ∧ s.capture.filing.Nodup ∧ (∀ r : Fin 4, r ∈ s.capture.filing ↔ s.capture.store[r].isSome = true)
    ∧ (∀ r : Fin 4, ∀ x, s.capture.store[r] = some x → x.body.length ≤ 2040)

/-- A slot's fields are in their ranges, and its pending buffer is a canonical `Memory` of offsets below 2040 (R99, R102, R103). -/
def SlotLegal (d : SlotData) : Prop :=
  d.outTag ≠ 0 ∧ 10 ≤ d.interval ∧ d.interval ≤ 10000 ∧ Memory.wf d.pendingBytes = true
    ∧ (∀ c ∈ d.pendingBytes, c.1 < 2040) ∧ d.pendingLen ≤ 2040 ∧ (∀ body, d.current = some body → body.length ≤ 2040)

/-- Every slot is legal; the emission is of a slot in RUNNING or STOPPING with cells still to place; only that slot is STOPPING; the due
list holds RUNNING slots, each once; it is empty whenever the engine is free (R99, R107, R108). -/
def CarouselSound (s : State) : Prop :=
  (∀ i : Fin 16, ∀ d, s.carousel.slots[i] = some d → SlotLegal d)
    ∧ (∀ e, s.carousel.emission = some e →
        e.placed < cellCount e.message.length ∧ ∃ d, s.carousel.slots[e.slot] = some d ∧ d.run.assigns = true)
    ∧ (∀ i : Fin 16, ∀ d, s.carousel.slots[i] = some d → d.run = .stopping → ∃ e, s.carousel.emission = some e ∧ e.slot = i)
    ∧ s.carousel.due.Nodup ∧ (∀ i ∈ s.carousel.due, ∃ d, s.carousel.slots[i] = some d ∧ d.run = .running)
    ∧ (s.carousel.emission = none → s.carousel.due = [])

/-- The confirm count is 1 or 2, the miss count 0 to 4, and a cell is in reception only behind a valid header in LOCKED, with the LT
kept at the position last examined, which is LT less the ticks counted since (R69, R121 to R125). -/
def DelineationSound (s : State) : Prop :=
  (∀ c, s.line.delin = .confirm c → 1 ≤ c ∧ c ≤ 2) ∧ (∀ m, s.line.delin = .locked m → m ≤ 4)
    ∧ (∀ r, s.line.receiving = some r → s.line.delin = .locked 0 ∧ r.hdr.len.toNat ≤ 122 ∧ r.arrival = s.line.examinedLt)
    ∧ s.lt = s.line.examinedLt + BitVec.ofNat 48 s.line.examinedAgo

/-- A commit is pending exactly while the record shows it in flight; a PAUSE in flight drains; PAUSED has an empty media queue; a closed
session has no operation and owes no notice (R12, R53, R148, R154). -/
def OperationsSound (s : State) : Prop :=
  (∀ q, (∃ p, s.map.pendingCommit = some p ∧ p.cmdSeq = q) ↔ s.agent.longOp = .inFlight .commit q)
    ∧ (∀ q, s.agent.longOp = .inFlight .pause q → s.classifier.admission = .pausing)
    ∧ (s.classifier.admission = .paused → s.queues.media = [])
    ∧ (s.agent.session = none → s.agent.longOp = .none ∧ s.noticeOwed = false)

/-- A condition that owes a notice is RAISED, and only LINE_UNLOCKED is ever ACKNOWLEDGED (R163, R165). -/
def ConditionsSound (s : State) : Prop :=
  ∀ k, ((s.agent.cond k).noticeOwed = true → (s.agent.cond k).state = .raised)
    ∧ ((s.agent.cond k).state = .acknowledged → k = .lineUnlocked)

/-- The configuration items are in their ranges and the table-share counter is at most the table share (R58, R171). -/
def SettingsLegal (s : State) : Prop :=
  (250 ≤ s.agent.settings.staleLimit ∧ s.agent.settings.staleLimit ≤ 2500000)
    ∧ (2 ≤ s.agent.settings.tableShare ∧ s.agent.settings.tableShare ≤ 64)
    ∧ (1000 ≤ s.agent.settings.sessionTimeout ∧ s.agent.settings.sessionTimeout ≤ 60000)
    ∧ (10 ≤ s.agent.settings.assemblyTimeout ∧ s.agent.settings.assemblyTimeout ≤ 5000)
    ∧ s.sched.shareCount ≤ s.agent.settings.tableShare

/-- The restart marks that are on their way: in the management queue and in the slot under way. -/
def restartMarks (s : State) : List RestartKind :=
  s.queues.mgmt.filterMap MgmtCell.mark ++ s.sched.restartMark.toList

/-- In RESTARTING exactly one restart is on its way and no command is queued; in SERVING none is (R157, R158). -/
def RestartSound (s : State) : Prop :=
  match s.agent.mode with
  | .serving => restartMarks s = []
  | .restarting => (restartMarks s).length = 1 ∧ s.agent.cmdQueue = []

/-- A cell has 122 payload bytes and a payload length that its header may carry (R120, R203). -/
def CellWhole (c : Cell) : Prop := c.payload.length = 122 ∧ c.hdr.len.toNat ≤ 122

/-- The cells a list of hand-overs to the Classifier carries. -/
def ClassItem.cells : ClassItem → List Cell
  | .cell c _ => [c]
  | .syncLoss _ => []

/-- Every cell the part holds for the output line or the Agent. -/
def heldCells (s : State) : List Cell :=
  s.classifier.input.flatMap ClassItem.cells ++ s.classifier.offered.map (fun o => o.media.cell) ++ s.agent.cmdQueue
    ++ s.queues.mgmt.map MgmtCell.cell ++ s.queues.table.map TableCell.cell ++ s.queues.media.map MediaCell.cell

/-- The slot under way carries one whole cell with a valid header (R56). -/
def SlotWhole (o : OutSlot) : Prop :=
  o.bytes.length = 128
    ∧ (readHeader (o.bytes.getD 0 0) (o.bytes.getD 1 0) (o.bytes.getD 2 0) (o.bytes.getD 3 0) (o.bytes.getD 4 0)
        (o.bytes.getD 5 0)).isSome = true

/-- Every output slot carries one whole cell with a valid header; every held cell is whole, the cell in reception may be delivered whole,
and the cached reply fits a cell (R56, R137, R203). -/
def OutputSound (s : State) : Prop :=
  (∀ c ∈ heldCells s, CellWhole c) ∧ (∀ r, s.line.receiving = some r → r.hdr.len.toNat ≤ 122)
    ∧ (∀ x, s.agent.session = some x → x.cache.answer.result.length ≤ 104)
    ∧ (∀ o, s.sched.outSlot = some o → SlotWhole o)

/-! ## Words of the statements: a line, a header, a cell -/

/-- Six counted bytes form a valid header (R120). -/
def ValidHeader (h : HeaderSample) : Prop :=
  h.b0.data = 0xD2 ∧ h.b5.data = crc8 [h.b0.data, h.b1.data, h.b2.data, h.b3.data, h.b4.data]
    ∧ (h.b2.data.getLsbD 0 = false ∧ h.b3.data.getLsbD 7 = false ∧ h.b3.data.getLsbD 6 = false) ∧ h.b4.data.toNat ≤ 122

/-- The byte values of a header sample, in order. -/
def sampleBytes (h : HeaderSample) : List Byte := [h.b0.data, h.b1.data, h.b2.data, h.b3.data, h.b4.data, h.b5.data]

/-- The sample with the sequence of IERR levels cleared. -/
def quiet (h : HeaderSample) : HeaderSample :=
  ⟨⟨h.b0.data, false⟩, ⟨h.b1.data, false⟩, ⟨h.b2.data, false⟩, ⟨h.b3.data, false⟩, ⟨h.b4.data, false⟩, ⟨h.b5.data, false⟩⟩

/-- Two headers differ in exactly one byte. -/
def OneByteOff (x y : List Byte) : Prop :=
  ∃ i, i < 6 ∧ x.getD i 0 ≠ y.getD i 0 ∧ ∀ j, j < 6 → j ≠ i → x.getD j 0 = y.getD j 0

/-- The first byte of the position next examined may have been counted at LT `arrival`, `ago` ticks ago: since the first byte of the
position last examined, and by now (R69, R119, R121). `ago` is the greatest such number, where rounds of LT leave several. -/
structure CountedAt (s : State) (arrival : Lt) (ago : Nat) : Prop where
  lt : s.lt = arrival + BitVec.ofNat 48 ago
  since : ago ≤ s.line.examinedAgo
  greatest : s.line.examinedAgo < ago + 2 ^ 48

/-- The cell that starts a delivered or discarded reception was damaged (R128). -/
def Damaged (r : RxCell) (payload : List RxByte) : Prop :=
  r.hdr.f = true ∨ r.ierr = true ∨ ∃ b ∈ payload, b.ierr = true

/-! ## Words of the statements: commands -/

/-- The Agent may take the command at the head of its queue, which has a code (R136, R152). -/
structure Takes (s : State) (code : Byte) (c : Command) (rest : List Cell) : Prop where
  serving : s.agent.mode = .serving
  buffer : s.queues.mgmt.length < 8
  noNotice : s.noticeOwed = false ∨ s.noticeAllowed = false
  queued : ∃ cell, s.agent.cmdQueue = cell :: rest ∧ Command.ofCell cell = c
  coded : c.code = code

/-- The command is one of the open session, in sequence, before the deadline (R142 steps 1 to 3). -/
structure InSequence (s : State) (code : Byte) (c : Command) (rest : List Cell) (x : Session) : Prop extends
    Takes s code c rest where
  session : s.agent.session = some x
  alive : reached s.lt x.deadline = false
  owner : c.session = x.number
  next : c.seq = x.expected

/-- The management cell that carries a reply, as it is placed (R46, R137, R207). -/
def replyCell (s : State) (r : Reply) (repeated : Bool) (mark : Option RestartKind) : MgmtCell :=
  ⟨buildCell s.agent.replyTag s.agent.replySeq false (r.payload repeated), s.agent.replyTag, s.agent.replySeq, mark⟩

/-- The deadline that a restart at this state's LT sets (R140). -/
def newDeadline (u : State) : Lt := u.lt + BitVec.ofNat 48 (25000 * u.agent.settings.sessionTimeout)

/-- The agent counters after a reply with a status (R160). -/
def countedBy (c : AgentCounters) : Status → AgentCounters
  | .done => { c with executed := Counter.inc c.executed }
  | .accepted => { c with executed := Counter.inc c.executed }
  | .refused => { c with refused := Counter.inc c.refused }

/-- The state after a session command taken at `s` from the open session `x` and executed (R144), where `u` is `s` with the command's
own effect: the command has left the queue, E is advanced, the deadline restarted, the reply cached, counted and placed under the reply
tag of `s`. -/
def executed (s u : State) (c : Command) (rest : List Cell) (x : Session) (a : Answer) (mark : Option RestartKind := none) :
    State :=
  { u with
    queues := { u.queues with mgmt := u.queues.mgmt ++ [replyCell s (c.reply a) false mark] }
    agent := { u.agent with
      cmdQueue := rest
      session := some ⟨x.number, x.expected + 1, newDeadline u, c.reply a⟩
      replySeq := s.agent.replySeq + 1
      counters := countedBy u.agent.counters a.status } }

/-- The state after a command taken at `s` that is answered without being executed: IDENTIFY and the refusals of steps 1 to 3 (R142, R146). -/
def answered (s : State) (c : Command) (rest : List Cell) (a : Answer) : State :=
  { s with
    queues := { s.queues with mgmt := s.queues.mgmt ++ [replyCell s (c.reply a) false none] }
    agent := { s.agent with
      cmdQueue := rest
      replySeq := s.agent.replySeq + 1
      counters := countedBy s.agent.counters a.status } }

/-- The state after a repeat taken at `s` and answered from the reply cache of session `x` (R143). -/
def repeated (s : State) (rest : List Cell) (x : Session) : State :=
  { s with
    queues := { s.queues with mgmt := s.queues.mgmt ++ [replyCell s x.cache true none] }
    agent := { s.agent with
      cmdQueue := rest
      session := some { x with deadline := newDeadline s }
      replySeq := s.agent.replySeq + 1
      counters := { s.agent.counters with repeats := Counter.inc s.agent.counters.repeats } } }

/-- The state with its session ended (R154). -/
def ended (s : State) : State :=
  { s with
    agent := { s.agent with session := none, longOp := .none, conds := mapAll CondEntry.clearOwed s.agent.conds }
    capture := { s.capture with store := mapAll (setOwed false) s.capture.store }
    map := { s.map with pendingCommit := none } }

/-- The session commands with their codes (R142, R206); IDENTIFY and OPEN are none. -/
def sessionCommands : List (Instr × Byte) :=
  [(.closeSession, 0x13), (.ping, 0x14), (.status, 0x15), (.mapPut, 0x21), (.mapRemove, 0x22), (.mapClear, 0x23),
   (.mapCopy, 0x24), (.mapDefault, 0x25), (.mapRead, 0x26), (.commit, 0x27), (.commitCancel, 0x28), (.ctxArm, 0x31),
   (.ctxDisarm, 0x32), (.storeRead, 0x33), (.storeRelease, 0x34), (.slotDefine, 0x41), (.slotWrite, 0x42),
   (.slotPublish, 0x43), (.slotStart, 0x44), (.slotStop, 0x45), (.slotClear, 0x46), (.slotQuery, 0x47), (.pause, 0x51),
   (.resume, 0x52), (.condRead, 0x61), (.condAck, 0x62), (.countRead, 0x63), (.countClear, 0x64), (.configSet, 0x71),
   (.configGet, 0x72), (.tagsSet, 0x73), (.restart, 0x74)]

/-! ### Arguments (R173, R206) -/

/-- One argument of a command: how many bytes it has, and which bytes it accepts there, given the argument bytes before it. -/
structure Arg where
  width : List Byte → Nat
  accepts : List Byte → List Byte → Bool

/-- An argument of a fixed width whose range does not depend on the arguments before it. -/
def Arg.plain (width : Nat) (accepts : List Byte → Bool) : Arg := ⟨fun _ => width, fun _ own => accepts own⟩

/-- A number within a range, ends included. -/
def Arg.number (width lo hi : Nat) : Arg := .plain width fun own => decide (lo ≤ beVal own ∧ beVal own ≤ hi)

/-- The bytes of an optional argument: absent whatever the value bytes, or present with a value in range. -/
def optionalIn (lo hi : Nat) (own : List Byte) : Bool :=
  match own with
  | [] => false
  | presence :: value => presence == 0 || (presence == 1 && decide (lo ≤ beVal value ∧ beVal value ≤ hi))

/-- The position, counted from 1, of the first argument that fails: its bytes are not all there, or are not accepted (R173, R174). -/
def firstBad : List Arg → Nat → List Byte → List Byte → Option Nat
  | [], _, _, _ => none
  | a :: as, pos, before, bytes =>
    let own := bytes.take (a.width before)
    if bytes.length < a.width before ∨ a.accepts before own = false then some pos
    else firstBad as (pos + 1) (before ++ own) (bytes.drop (a.width before))

/-- MAP_PUT's arguments; the third is absent unless the action forwards, the ninth present exactly when it captures (R180). The action
is the byte behind the input tag. -/
def mapPutArguments : List Arg :=
  [.number 2 1 4095, .number 1 0 3,
   ⟨fun _ => 3, fun before own => optionalIn 1 4095 own
     && (own.getD 0 0 == 0 || before.getD 2 0 == 1 || before.getD 2 0 == 3)⟩,
   .number 1 0 1, .number 1 0 1, .number 1 0 1, .number 1 0 1, .plain 5 (optionalIn 250 2500000),
   ⟨fun _ => 2, fun before own => optionalIn 0 7 own
     && (own.getD 0 0 == 1) == (before.getD 2 0 == 2 || before.getD 2 0 == 3)⟩]

/-- SLOT_WRITE's arguments: offset + count is at most 2040, and count bytes follow (R191). -/
def slotWriteArguments : List Arg :=
  [.number 1 0 15, .number 2 0 2039,
   ⟨fun _ => 1, fun before own => decide (1 ≤ beVal own ∧ beVal own ≤ 100 ∧ beVal (before.drop 1) + beVal own ≤ 2040)⟩,
   ⟨fun before => beVal (before.drop 3), fun _ _ => true⟩]

/-- COUNT_READ's arguments: the entry group is refused, and the part is read for the groups of two parts only (R198; log 16). -/
def countReadArguments : List Arg :=
  [.plain 1 fun own => decide (1 ≤ beVal own ∧ beVal own ≤ 8 ∧ beVal own ≠ 5),
   ⟨fun before => if beVal before = 6 ∨ beVal before = 7 then 1 else 0, fun _ own => decide (beVal own ≤ 1)⟩]

/-- COUNT_CLEAR's arguments: bank and input tag are read for the entry group only (R199). -/
def countClearArguments : List Arg :=
  [.number 1 1 8,
   ⟨fun before => if beVal before = 5 then 1 else 0, fun _ own => decide (beVal own ≤ 1)⟩,
   ⟨fun before => if beVal (before.take 1) = 5 then 2 else 0,
    fun before own => decide (beVal (before.take 1) = 5 → 1 ≤ beVal own ∧ beVal own ≤ 4095)⟩]

/-- The range of a configuration item, by its code (R171). -/
def itemRange : Nat → Nat × Nat
  | 1 => (250, 2500000)
  | 2 => (2, 64)
  | 3 => (1000, 60000)
  | _ => (10, 5000)

/-- CONFIG_SET's arguments: the value is in its item's range (R171, R200). -/
def configSetArguments : List Arg :=
  [.number 1 1 4,
   ⟨fun _ => 4, fun before own => decide ((itemRange (beVal before)).1 ≤ beVal own ∧ beVal own ≤ (itemRange (beVal before)).2)⟩]

/-- The commands that have arguments, with their codes and their arguments (R180 to R202, R206, R209). -/
def argumentTable : List (Instr × Byte × List Arg) :=
  [(.mapPut, 0x21, mapPutArguments),
   (.mapRemove, 0x22, [.number 2 1 4095]),
   (.mapDefault, 0x25, [.number 1 0 1]),
   (.mapRead, 0x26, [.number 1 0 1, .number 2 1 4095]),
   (.commit, 0x27, [.plain 7 (optionalIn 0 (2 ^ 48 - 1))]),
   (.ctxArm, 0x31, [.number 1 0 7, .number 2 0 256, .number 1 0 1]),
   (.ctxDisarm, 0x32, [.number 1 0 7]),
   (.storeRead, 0x33, [.number 1 0 3, .plain 2 fun own => decide (beVal own ≤ 2040 ∨ beVal own = 65535)]),
   (.storeRelease, 0x34, [.number 1 0 3]),
   (.slotDefine, 0x41, [.number 1 0 15, .number 2 1 4095, .number 1 0 255, .number 1 0 31, .number 2 10 10000]),
   (.slotWrite, 0x42, slotWriteArguments),
   (.slotPublish, 0x43, [.number 1 0 15, .number 2 0 2040, .number 1 0 1]),
   (.slotStart, 0x44, [.number 1 0 15]),
   (.slotStop, 0x45, [.number 1 0 15]),
   (.slotClear, 0x46, [.number 1 0 15]),
   (.slotQuery, 0x47, [.number 1 0 15]),
   (.condAck, 0x62, [.number 1 1 8]),
   (.countRead, 0x63, countReadArguments),
   (.countClear, 0x64, countClearArguments),
   (.configSet, 0x71, configSetArguments),
   (.configGet, 0x72, [.number 1 1 4]),
   (.tagsSet, 0x73, [.number 2 0 4095, .number 2 0 4095]),
   (.restart, 0x74, [.number 1 1 2])]

/-- Bytes that spell an optional value: presence byte and value bytes, which hold anything where the value is absent (R173, R206). -/
def SpellsOptional (width : Nat) (value : Option Nat) (bytes : List Byte) : Prop :=
  match value with
  | none => ∃ any : List Byte, any.length = width ∧ bytes = 0 :: any
  | some v => bytes = 1 :: beBytes width v

/-- Argument bytes that spell an entry: the 17 bytes of the entry image, but for the value bytes of what is absent (R173, R180, R207). -/
def SpellsEntry (f : EntryFields) (bytes : List Byte) : Prop :=
  ∃ out limit context : List Byte, SpellsOptional 2 (f.outputTag.map BitVec.toNat) out ∧ SpellsOptional 4 f.staleLimit limit
    ∧ SpellsOptional 1 (f.context.map Fin.val) context
    ∧ bytes = beBytes 2 f.inputTag.toNat ++ f.action.toByte :: (out
        ++ [f.numbering.toByte, flagByte f.restamp, f.damage.toByte, f.stale.toByte] ++ limit ++ context)

/-! ## Words of the statements: blocks -/

/-- An entry of the shadow bank fails a check of R18. The checks of R209 that are no checks of R18 are failed by no entry. -/
def FailsCheck (s : State) (e : Entry) : ConflictCheck → Prop
  | .sharedOutputTag => e.fields.forwards = true ∧ ∃ o ∈ s.map.shadowBank.entries, o.fields.inputTag ≠ e.fields.inputTag
      ∧ o.fields.forwards = true ∧ o.fields.effectiveTag = e.fields.effectiveTag
  | .replyTag => e.fields.forwards = true ∧ e.fields.effectiveTag = s.agent.replyTag
  | .carouselTag => e.fields.forwards = true ∧ ∃ i : Fin 16, ∃ d, s.carousel.slots[i] = some d ∧ d.run.assigns = true
      ∧ d.outTag = e.fields.effectiveTag
  | .commandTag => e.fields.inputTag = s.agent.cmdTag
  | .sharedContext => e.fields.captures = true ∧ ∃ o ∈ s.map.shadowBank.entries, o.fields.inputTag ≠ e.fields.inputTag
      ∧ o.fields.captures = true ∧ o.fields.context = e.fields.context
  | .activeEntry | .activeSlot | .tagsEqualOrZero => False

/-- The checks of R18, in the order of its table. -/
def validationChecks : List ConflictCheck := [.sharedOutputTag, .replyTag, .carouselTag, .commandTag, .sharedContext]

/-- An entry of the shadow bank offends in one of the ways of R18. -/
def Offends (s : State) (e : Entry) : Prop := ∃ check ∈ validationChecks, FailsCheck s e check

/-- A check is the first of R18's table that an entry fails (R185). -/
def FirstFailed (s : State) (e : Entry) (check : ConflictCheck) : Prop :=
  ∃ before after, validationChecks = before ++ check :: after ∧ FailsCheck s e check ∧ ∀ c ∈ before, ¬ FailsCheck s e c

/-- The state with an abandonment of a context (R86). -/
def abandoned (s : State) (i : Fin 8) (why : LossReason) : State :=
  { s with
    capture := { s.capture with contexts := setAt s.capture.contexts i { s.capture.contexts[i] with
      state := .armed
      lastLoss := some (why, s.lt)
      counters := { s.capture.contexts[i].counters with abandoned := Counter.inc s.capture.contexts[i].counters.abandoned } } }
    reports := s.reports ++ [.event .captureLoss] }

/-- The state with one context replaced. -/
def withContext (s : State) (i : Fin 8) (c : Context) : State :=
  { s with capture := { s.capture with contexts := setAt s.capture.contexts i c } }

/-- The state with one slot replaced. -/
def withSlot (s : State) (i : Fin 16) (d : Option SlotData) : State :=
  { s with carousel := { s.carousel with slots := setAt s.carousel.slots i d } }

/-- The state with one bank replaced. -/
def withBank (s : State) (i : BankId) (b : Bank) : State :=
  { s with map := match i with
      | .a => { s.map with bankA := b }
      | .b => { s.map with bankB := b } }

/-- A cell that starts a message in an ARMED context (R82). -/
def StartsMessage (h : Handoff) : Prop := h.cell.hdr.u = true ∧ h.cell.hdr.f = false

/-- The body length that a start cell declares (R77, R205). -/
def declaredLength (h : Handoff) : Nat := (h.cell.payload.getD 2 0).toNat * 256 + (h.cell.payload.getD 3 0).toNat

/-- A start cell that passes the three header checks (R82). -/
def SoundStart (h : Handoff) : Prop :=
  StartsMessage h ∧ 4 ≤ h.cell.hdr.len.toNat ∧ (h.cell.payload.getD 1 0).toNat < 32 ∧ declaredLength h ≤ 2040

/-- The partial message of a start cell, before its payload is taken (R82). -/
def startOf (s : State) (h : Handoff) : Partial :=
  ⟨h.source, h.cell.payload.getD 0 0, (h.cell.payload.getD 1 0).extractLsb' 0 5, declaredLength h, [], h.arrival,
   s.lt + BitVec.ofNat 48 (25000 * s.agent.settings.assemblyTimeout)⟩

/-- The context takes the cell into the partial message `p`: it starts it, or continues it past the checks of R84. -/
def TakesInto (s : State) (h : Handoff) (p : Partial) : Prop :=
  (s.capture.contexts[h.context].state = .armed ∧ SoundStart h ∧ p = startOf s h)
    ∨ (s.capture.contexts[h.context].state = .assembling p ∧ h.gap = false ∧ h.cell.hdr.f = false ∧ h.cell.hdr.u = false
        ∧ h.cell.hdr.k = false)

/-- The bytes still to come before a cell (R83). -/
def stillToCome (p : Partial) : Nat := 8 + p.bodyLen - p.held.length

/-- The emission of slot `i` started from state `s` with body `body`, where the pending image was taken if it was published (R109 to R111).
`k` is the number of R110. -/
def emissionStarted (s : State) (i : Fin 16) (d : SlotData) (k : Nat) : State :=
  let version := if d.published && d.bump then d.version + 1 else d.version
  let body := if d.published then Memory.readAll d.pendingBytes 0 d.pendingLen else d.current.getD []
  let d' := { d with
    version := version, current := some body, published := false, bump := if d.published then false else d.bump
    nextDue := d.nextDue + BitVec.ofNat 48 (k * (25000 * d.interval))
    lateEvents := if 2 ≤ k then Counter.inc d.lateEvents else d.lateEvents }
  { s with
    carousel := { s.carousel with
      slots := setAt s.carousel.slots i (some d')
      emission := some ⟨i, frameMessage d.type version body, 0⟩ }
    reports := if 2 ≤ k then s.reports ++ [.event .carouselLate] else s.reports }

/-- The slot has an image to emit: a current one, or a published pending one (R104, R109). -/
def HasImage (d : SlotData) : Prop := d.current.isSome = true ∨ d.published = true

/-- The slots in RUNNING, in order of number. -/
def runningSlots (s : State) : List (Fin 16) :=
  slotNumbers.filter fun i => s.carousel.slots[i].any fun d => decide (d.run = .running)

/-- How long a slot's due time has been reached (R108). -/
def dueFor (s : State) (d : SlotData) : Nat := (s.lt - d.nextDue).toNat

/-- The number k of R110 at an emission start. -/
def intervalsPassed (s : State) (d : SlotData) : Nat := dueFor s d / (25000 * d.interval) + 1

/-- The state at the start of a slot that carries `bytes`, the queues and counters being as given (R56, R58). -/
def slotBegun (s : State) (q : Queues) (share : Nat) (counters : OutCounters) (o : OutSlot) : State :=
  { s with queues := q, sched := ⟨share, counters, some o⟩ }

/-- The table-share counter after a slot that carries no table cell (R58). -/
def shareRaised (s : State) : Nat := min (s.sched.shareCount + 1) s.agent.settings.tableShare

/-- Order 2 of R57 applies. -/
def TableTurn (s : State) : Prop :=
  s.queues.table ≠ [] ∧ (s.queues.media = [] ∨ s.sched.shareCount = s.agent.settings.tableShare)

/-- The media head is discarded at its stale decision (R73). -/
def StaleDiscard (s : State) (m : MediaCell) : Prop :=
  m.staleLimit < (s.lt - m.arrival).toNat ∧ m.stale = .dropStale

/-- The state with a notice placed (R151, R208): `n` is the state without the thing owed. -/
def noticed (s n : State) (x : Session) (kind : Byte) (contents : List Byte) : State :=
  { n with
    queues := { s.queues with mgmt := s.queues.mgmt ++
      [⟨buildCell s.agent.replyTag s.agent.replySeq false
          (beBytes 2 x.number.toNat ++ [0x02, s.agent.noticeNo, kind] ++ contents),
        s.agent.replyTag, s.agent.replySeq, none⟩] }
    agent := { n.agent with replySeq := s.agent.replySeq + 1, noticeNo := s.agent.noticeNo + 1 } }

/-- R151's conditions for building a notice. -/
def MayNotice (s : State) (x : Session) : Prop :=
  s.agent.session = some x ∧ s.agent.mode = .serving ∧ s.queues.mgmt.length ≤ 6

/-- A report stands at a place of the list with no report of the same block before it (R161). -/
def NextReport (r : Report) (before after : List Report) (s : State) : Prop :=
  s.reports = before ++ r :: after ∧ ∀ x ∈ before, x.reporter ≠ r.reporter

/-- The state with every waiting notice owed to the controller that opens the session (R92, R138). -/
def owedAll (s : State) : State :=
  { s with
    agent := { s.agent with conds := mapAll CondEntry.openOwed s.agent.conds }
    capture := { s.capture with store := mapAll (setOwed true) s.capture.store } }

/-- The state after an OPEN that opens or resynchronises the session, with the next notice number in its reply (R138, R139, R176). -/
def opened (s : State) (c : Command) (rest : List Cell) (noticeNo : Byte) : State :=
  let a : Answer := ⟨.done, .none, [c.seq + 1] ++ beBytes 4 s.agent.settings.sessionTimeout ++ [noticeNo]⟩
  { s with
    queues := { s.queues with mgmt := s.queues.mgmt ++ [replyCell s (c.reply a) false none] }
    agent := { s.agent with
      cmdQueue := rest
      session := some ⟨c.session, c.seq + 1, newDeadline s, c.reply a⟩
      noticeNo := noticeNo
      replySeq := s.agent.replySeq + 1
      counters := countedBy s.agent.counters .done } }

/-- The state after a swap (R22): the selector names the other bank, whose entries have inherited tracking, and its bindings are handed to
the Capture Engine. -/
def swapped (s : State) : State :=
  let bank : Bank := { s.map.shadowBank with entries := s.map.shadowBank.entries.map (inheritTracking s.map.activeBank) }
  { s with
    map := match s.map.active with
      | .a => { s.map with bankB := bank, active := .b }
      | .b => { s.map with bankA := bank, active := .a }
    capture := { s.capture with input := s.capture.input ++ [.bindings bank.bindings] } }

/-- The long-operation record as STATUS reports it: state, kind, command sequence, outcome (R179, R207). -/
def opBytes : LongOp → List Byte
  | .none => [0, 0, 0, 0, 0, 0, 0]
  | .inFlight k q => [1, 1, k.toByte, 1, q, 0, 0]
  | .ended k q o => [2, 1, k.toByte, 1, q, 1, o.toByte]

/-- One record as STATUS reports it: its state, and its position in the filing list (R179). -/
def recordBytes (s : State) (r : Fin 4) : List Byte :=
  (if s.capture.store[r].isSome then 1 else 0) ::
    (match s.capture.filing.findIdx? (fun y => y = r) with
     | some n => [1, BitVec.ofNat 8 (n + 1)]
     | none => [0, 0])

/-- STATUS's result, with E as the command advanced it and the cells that wait behind the command (R179). -/
def statusBytes (s : State) (e : Byte) (waiting : Nat) : List Byte :=
  [1, e] ++ opBytes s.agent.longOp
    ++ (match s.map.pendingCommit with
        | some p => 1 :: beBytes 6 p.due.toNat
        | none => [0, 0, 0, 0, 0, 0, 0])
    ++ [s.map.active.toByte] ++ beBytes 4 s.map.bankA.entries.length ++ [s.map.bankA.default.toByte]
    ++ beBytes 4 s.map.bankB.entries.length ++ [s.map.bankB.default.toByte]
    ++ [s.classifier.admission.toByte, s.line.delin.toByte]
    ++ [BitVec.ofNat 8 s.queues.mgmt.length, BitVec.ofNat 8 s.queues.table.length] ++ beBytes 2 s.queues.media.length
    ++ [BitVec.ofNat 8 waiting]
    ++ beBytes 4 (recordNumbers.countP fun r => s.capture.store[r].isSome)
    ++ (recordBytes s 0 ++ recordBytes s 1 ++ recordBytes s 2 ++ recordBytes s 3)
    ++ beBytes 2 s.agent.cmdTag.toNat ++ beBytes 2 s.agent.replyTag.toNat

/-- The cells of a message, as the Carousel Engine places them (R111, R112). -/
def messageCells (d : SlotData) (message : List Byte) : List Cell :=
  (List.range (cellCount message.length)).map fun n =>
    buildCell d.outTag (d.outSeq + BitVec.ofNat 6 n) (decide (n = 0)) ((message.drop (122 * n)).take 122)

end Sys2Proof.Safety
end

