-- ==== Sys2Proof/Certificates/Slice0/Obligations.lean ====
section
/-! DEFINITION. The statements for the provers. -/

open Sys2Proof Sys2Proof.Machine Sys2Proof.Safety

/-! ## The machine -/

/-- A step runs the command at the front of the queue with the queue's rest; on an empty queue the block idles (log 1). -/
def Obligations.StepRunsFrontCommand : Prop :=
  (∀ (c : Instr) (rest : List Instr) (s : State), s.pending = c :: rest → step s = exec c { s with pending := rest })
    ∧ ∀ s : State, s.pending = [] → step s = .next s

/-- What a hard reset leaves in every block (R27, R64, R68, R97, R117, R130, R159, R167). -/
def Obligations.ResetLeavesEveryBlock : Prop :=
  let s := State.reset
  s.lt = 0
    ∧ (s.line.delin = .hunt ∧ s.line.receiving = none ∧ s.line.counters = ⟨0, 0, 0, 0, 0⟩)
    ∧ (s.map.bankA.entries = [] ∧ s.map.bankB.entries = [] ∧ s.map.bankA.default = .drop ∧ s.map.bankB.default = .drop
        ∧ s.map.active = .a ∧ s.map.pendingCommit = none ∧ s.map.bankA.counters = ⟨0, 0, 0⟩ ∧ s.map.bankB.counters = ⟨0, 0, 0⟩)
    ∧ (s.queues.mgmt = [] ∧ s.queues.table = [] ∧ s.queues.media = [] ∧ s.classifier.admission = .forwarding)
    ∧ (s.sched.shareCount = 8 ∧ s.sched.counters = ⟨0, 0, 0, 0, 0, 0, 0⟩ ∧ s.sched.outSlot = none)
    ∧ ((∀ i : Fin 8, s.capture.contexts[i] = ⟨.idle, none, none, none, none, ⟨0, 0, 0, 0⟩⟩)
        ∧ (∀ r : Fin 4, s.capture.store[r] = none) ∧ s.capture.filing = [])
    ∧ ((∀ i : Fin 16, s.carousel.slots[i] = none) ∧ s.carousel.due = [] ∧ s.carousel.emission = none)
    ∧ (s.agent.mode = .serving ∧ s.agent.session = none ∧ s.agent.cmdQueue = [] ∧ s.agent.longOp = .none
        ∧ s.agent.noticeNo = 0 ∧ s.agent.replySeq = 0 ∧ s.agent.cmdTag = 4064 ∧ s.agent.replyTag = 4065
        ∧ s.agent.settings = ⟨10000, 8, 10000, 500⟩ ∧ s.agent.counters = ⟨0, 0, 0, 0⟩
        ∧ ∀ k, s.agent.cond k = ⟨.clear, 0, none, false⟩)

/-- HARD_RESET, RESET_N_RELEASE and TREF_EDGE complete in every state (R64, R66, R68, R130, R133); the output line while RESET_N is low
(R133); the test of a due time, and the one tick at which a time not yet reached becomes reached (R20, R67). The tick counted for the Line
Receiver is the model's (log 6). -/
def Obligations.TimeAndResetPin : Prop :=
  (∀ s : State,
      exec .hardReset s = .next { State.reset with resetLow := true, pending := s.pending }
        ∧ exec .resetNRelease s = .next { s with resetLow := false }
        ∧ (s.resetLow = false → exec .trefEdge s = .next { s with
          lt := BitVec.ofNat 48 ((s.lt.toNat + 1) % 2 ^ 48)
          line := { s.line with examinedAgo := s.line.examinedAgo + 1 } })
        ∧ (s.resetLow = true → exec .trefEdge s = .next s)
        ∧ (s.resetLow = true → ∀ k, s.outLines k = ⟨0x00, false⟩))
    ∧ (∀ lt due : Lt,
      (reached lt due = true ↔ (lt.toNat + (2 ^ 48 - due.toNat)) % 2 ^ 48 < 2 ^ 47)
        ∧ (reached lt due = false → (reached (lt + 1) due = true ↔ lt + 1 = due)))

/-! ## The wire -/

/-- R120: which six bytes form a valid header; IERR does not matter; a one-byte corruption of a valid header is invalid. -/
def Obligations.HeaderValidity : Prop :=
  ∀ h : HeaderSample,
    ((HeaderSample.header h).isSome = true ↔ ValidHeader h)
      ∧ HeaderSample.header h = HeaderSample.header (quiet h)
      ∧ ∀ g : HeaderSample, OneByteOff (sampleBytes h) (sampleBytes g) → ValidHeader h → ¬ ValidHeader g

/-- The header bytes that are written read back as the header, and a header that is read was written so (R120, R203). -/
def Obligations.HeaderRoundTrip : Prop :=
  (∀ hd : Header, hd.len.toNat ≤ 122 →
    readHeader ((headerBytes hd).getD 0 0) ((headerBytes hd).getD 1 0) ((headerBytes hd).getD 2 0) ((headerBytes hd).getD 3 0)
      ((headerBytes hd).getD 4 0) ((headerBytes hd).getD 5 0) = some hd)
    ∧ ∀ (b0 b1 b2 b3 b4 b5 : Byte) (hd : Header), readHeader b0 b1 b2 b3 b4 b5 = some hd →
        headerBytes hd = [b0, b1, b2, b3, b4, b5]

/-- The 128 bytes a cell is sent as, field by field (R60, R203), the filler cell (R61) and the manual's example values (R203 to R205). -/
def Obligations.CellOnTheLine : Prop :=
  (∀ (c : Cell) (tag : Tag) (seq : Seq), c.payload.length = 122 →
    let flags := (if c.hdr.u then 8 else 0) + (if c.hdr.k then 4 else 0) + (if c.hdr.f then 2 else 0)
    let head : List Byte :=
      [0xD2, BitVec.ofNat 8 (tag.toNat / 16), BitVec.ofNat 8 (tag.toNat % 16 * 16 + flags), BitVec.ofNat 8 seq.toNat, c.hdr.len]
    cellBytes c tag seq = head ++ [crc8 head] ++ c.payload ∧ (cellBytes c tag seq).length = 128)
    ∧ cellBytes fillerCell 0 0 = [0xD2, 0x00, 0x00, 0x00, 0x00, 0x99] ++ List.replicate 122 0xFF
    ∧ (headerBytes ⟨501, true, false, false, 40, 122⟩).take 5 = [0xD2, 0x1F, 0x58, 0x28, 0x7A]
    ∧ crc32 [0x31, 0x32, 0x33, 0x34, 0x35, 0x36, 0x37, 0x38, 0x39] = 0xFC891918#32

/-- A message framed and cut by the Carousel Engine, handed over whole to an ARMED context whose filter passes it, is filed as it was
(R77, R82 to R85, R90, R111, R205). -/
def Obligations.CaptureReadsBackEmission : Prop :=
  ∀ (s : State) (i : Fin 8) (r : Fin 4) (d : SlotData) (body : List Byte) (source : Tag) (arrival : Nat → Lt)
    (items : List CaptureItem) (more : List Instr) (f : Filter),
    body.length ≤ 2040 → s.capture.contexts[i].state = .armed → s.capture.contexts[i].filter = some f →
    (f.type = none ∨ f.type = some d.type) → (f.mode = .any ∨ s.capture.contexts[i].lastVersion ≠ some d.version) →
    s.capture.store[r] = none → (∀ q : Fin 4, q < r → s.capture.store[q].isSome = true) →
    let cells := messageCells d (frameMessage d.type d.version body)
    s.capture.input = (cells.mapIdx fun n c => CaptureItem.handoff ⟨i, c, source, arrival n, false⟩) ++ items →
    s.pending = List.replicate cells.length .captureHandoff ++ more →
    Host.Core.run Sys2Proof.core cells.length s = .next { s with
      pending := more
      capture := { s.capture with
        input := items
        store := setAt s.capture.store r
          (some ⟨i, source, d.type, d.version, body, arrival 0, s.lt, s.agent.session.isSome⟩)
        filing := s.capture.filing ++ [r]
        contexts := setAt s.capture.contexts i { s.capture.contexts[i] with
          lastVersion := some d.version
          counters := { s.capture.contexts[i].counters with delivered := Counter.inc s.capture.contexts[i].counters.delivered } } } }

/-- The entry image of every entry that R2 allows reads back as that entry, whatever follows it, and so do the same bytes with anything
in the value bytes of what is absent (R173, R180, R206, R207). -/
def Obligations.EntryImageRoundTrip : Prop :=
  ∀ (f : EntryFields) (bytes extra : List Byte), EntryLegal f → SpellsEntry f (entryImage f)
    ∧ (SpellsEntry f bytes → mapPutArgs (bytes ++ extra) = .ok f)

/-! ## Line reception -/

/-- HEADER_EXAMINATION in every delineation state (R121 to R126), with the arrival LT kept at the position (R69); while a cell is in
reception (log 7) or RESET_N is low (R130) nothing is examined, nor with an LT that the position's first byte cannot have, however long IVAL was low (R119; log 6). -/
def Obligations.HeaderExamined : Prop :=
  ∀ (s : State) (h : HeaderSample) (a : Lt),
    ((s.resetLow = true ∨ s.line.receiving.isSome = true ∨ ¬ ∃ ago, CountedAt s a ago) → exec (.headerExamination h a) s = .next s)
      ∧ ∀ ago, s.resetLow = false → s.line.receiving = none → CountedAt s a ago →
        let l : LineReceiver := { s.line with examinedLt := a, examinedAgo := ago }
        ((s.line.delin = .hunt → ¬ ValidHeader h →
          exec (.headerExamination h a) s = .next { s with line := { l with nextPos := s.line.nextPos + 1 } })
        ∧ (s.line.delin = .hunt → ValidHeader h → exec (.headerExamination h a) s =
            .next { s with line := { l with delin := .confirm 1, nextPos := s.line.nextPos + 128 } })
        ∧ (∀ c, s.line.delin = .confirm c → ¬ ValidHeader h → exec (.headerExamination h a) s =
            .next { s with line := { l with delin := .hunt, nextPos := s.line.nextPos + 1 } })
        ∧ (s.line.delin = .confirm 1 → ValidHeader h → exec (.headerExamination h a) s =
            .next { s with line := { l with delin := .confirm 2, nextPos := s.line.nextPos + 128 } })
        ∧ (∀ hd, s.line.delin = .confirm 2 → HeaderSample.header h = some hd → exec (.headerExamination h a) s =
            .next { s with
              line := { l with
                delin := .locked 0, nextPos := s.line.nextPos + 128, receiving := some ⟨hd, HeaderSample.anyIerr h, a⟩ }
              reports := s.reports ++ [.causeGone] })
        ∧ (∀ m hd, s.line.delin = .locked m → HeaderSample.header h = some hd → exec (.headerExamination h a) s =
            .next { s with
              line := { l with
                delin := .locked 0, nextPos := s.line.nextPos + 128, receiving := some ⟨hd, HeaderSample.anyIerr h, a⟩ } })
        ∧ (∀ m, s.line.delin = .locked m → m < 4 → ¬ ValidHeader h → exec (.headerExamination h a) s =
            .next { s with
              line := { l with
                delin := .locked (m + 1), nextPos := s.line.nextPos + 128
                counters := { s.line.counters with headerErrors := Counter.inc s.line.counters.headerErrors } }
              reports := s.reports ++ [.event .headerErrors] })
        ∧ (s.line.delin = .locked 4 → ¬ ValidHeader h → exec (.headerExamination h a) s =
            .next { s with
              line := { l with
                delin := .hunt, nextPos := s.line.nextPos + 1
                counters := { s.line.counters with
                  headerErrors := Counter.inc s.line.counters.headerErrors
                  syncLosses := Counter.inc s.line.counters.syncLosses } }
              reports := s.reports ++ [.event .headerErrors, .event .lineUnlocked]
              classifier := { s.classifier with input := s.classifier.input ++ [.syncLoss false] } }))

/-- CELL_DELIVERY: filler is counted and discarded; any other cell is delivered whole, with F set if it was damaged (R124, R128). -/
def Obligations.CellDelivered : Prop :=
  ∀ (s : State) (r : RxCell) (payload : List RxByte), s.line.receiving = some r → payload.length = 122 →
    (r.hdr.tag = 0 → exec (.cellDelivery payload) s =
      .next { s with line := { s.line with
        receiving := none
        counters := { s.line.counters with fillerReceived := Counter.inc s.line.counters.fillerReceived } } })
      ∧ (r.hdr.tag ≠ 0 → ¬ Damaged r payload → exec (.cellDelivery payload) s =
        .next { s with
          line := { s.line with
            receiving := none
            counters := { s.line.counters with cellsDelivered := Counter.inc s.line.counters.cellsDelivered } }
          classifier := { s.classifier with
            input := s.classifier.input ++ [.cell ⟨{ r.hdr with f := false }, payload.map RxByte.data⟩ r.arrival] } })
      ∧ (r.hdr.tag ≠ 0 → Damaged r payload → exec (.cellDelivery payload) s =
        .next { s with
          line := { s.line with
            receiving := none
            counters := { s.line.counters with
              cellsDelivered := Counter.inc s.line.counters.cellsDelivered
              damagedCells := Counter.inc s.line.counters.damagedCells } }
          classifier := { s.classifier with
            input := s.classifier.input ++ [.cell ⟨{ r.hdr with f := true }, payload.map RxByte.data⟩ r.arrival] } })

/-! ## Classification, admission -/

/-- CELL_CLASSIFICATION of a cell on the command tag (R135). -/
def Obligations.CommandCellIntercepted : Prop :=
  ∀ (s : State) (c : Cell) (a : Lt) (rest : List ClassItem), s.classifier.input = .cell c a :: rest →
    c.hdr.tag = s.agent.cmdTag →
    (s.agent.mode = .restarting → exec .cellClassification s =
      .next { s with
        classifier := { s.classifier with input := rest }
        agent := { s.agent with
          counters := { s.agent.counters with discarded := Counter.inc s.agent.counters.discarded } } })
      ∧ (s.agent.mode = .serving → (c.hdr.f = true ∨ c.hdr.len.toNat < 6 ∨ 4 ≤ s.agent.cmdQueue.length) →
        exec .cellClassification s =
          .next { s with
            classifier := { s.classifier with input := rest }
            agent := { s.agent with
              counters := { s.agent.counters with discarded := Counter.inc s.agent.counters.discarded } }
            reports := s.reports ++ [.event .commandDiscard] })
      ∧ (s.agent.mode = .serving → c.hdr.f = false → 6 ≤ c.hdr.len.toNat → s.agent.cmdQueue.length < 4 →
        exec .cellClassification s =
          .next { s with
            classifier := { s.classifier with input := rest }
            agent := { s.agent with cmdQueue := s.agent.cmdQueue ++ [c] } })

/-- The tracker's judgement in each mode: acceptance, the new record, the cells missed, the gap indication and the output sequence
(R31 to R37). -/
def Obligations.TrackerJudgement : Prop :=
  ∀ (f : EntryFields) (n q : Seq),
    let assigns : Bool := (f.action == .forward || f.action == .forwardCapture) && f.numbering == .renumber
    trackCell f ⟨.unseen, n⟩ q = .accepted ⟨.tracking q, if assigns then n + 1 else n⟩ 0 false (if assigns then n else q)
      ∧ (∀ last, trackCell f ⟨.resync last, n⟩ q =
          .accepted ⟨.tracking q, if assigns then n + 2 else n⟩ 0 true (if assigns then n + 1 else q))
      ∧ (∀ last, q = last → trackCell f ⟨.tracking last, n⟩ q = .duplicate)
      ∧ (∀ last (d : Nat), d = (q.toNat + 128 - last.toNat - 1) % 64 → d ≠ 63 → trackCell f ⟨.tracking last, n⟩ q =
          .accepted ⟨.tracking q, if assigns then n + BitVec.ofNat 6 d + 1 else n⟩ d (decide (d ≠ 0))
            (if assigns then n + BitVec.ofNat 6 d else q))

/-- CELL_CLASSIFICATION of a matched cell: a duplicate is dropped; an accepted cell is tracked, counted, handed to capture and offered for
forwarding as its entry says (R5, R6, R33, R34, R38, R40). -/
def Obligations.MatchedCellClassified : Prop :=
  ∀ (s : State) (c : Cell) (a : Lt) (rest : List ClassItem) (e : Entry), s.classifier.input = .cell c a :: rest →
    c.hdr.tag ≠ s.agent.cmdTag → s.map.activeBank.find c.hdr.tag = some e →
    (trackCell e.fields e.track c.hdr.seq = .duplicate → exec .cellClassification s =
      .next { s with
        classifier := { s.classifier with input := rest }
        map := s.map.setBank s.map.active (s.map.activeBank.modify c.hdr.tag fun y => { y with
          counters := { y.counters with
            matched := Counter.inc y.counters.matched, dropDuplicate := Counter.inc y.counters.dropDuplicate } }) })
      ∧ ∀ track missed gap outSeq, trackCell e.fields e.track c.hdr.seq = .accepted track missed gap outSeq →
        let forwards : Bool := e.fields.action == .forward || e.fields.action == .forwardCapture
        let refused : Bool := forwards && c.hdr.f && e.fields.damage == .dropDamaged
        exec .cellClassification s =
          .next { s with
            map := s.map.setBank s.map.active (s.map.activeBank.modify c.hdr.tag fun y => { y with
              track := track
              counters := { y.counters with
                matched := Counter.inc y.counters.matched
                gapCells := Counter.add y.counters.gapCells missed
                discontinuities :=
                  if missed = 0 then y.counters.discontinuities else Counter.inc y.counters.discontinuities
                dropDamaged := if refused then Counter.inc y.counters.dropDamaged else y.counters.dropDamaged } })
            capture := { s.capture with
              input := s.capture.input ++
                (match e.fields.captures, e.fields.context with
                 | true, some i => [.handoff ⟨i, c, e.fields.inputTag, a, gap⟩]
                 | _, _ => []) }
            classifier := { s.classifier with
              input := rest
              offered := if forwards && !refused then
                  s.classifier.offered ++
                    [⟨⟨c, e.fields.outputTag.getD e.fields.inputTag, outSeq, e.fields.restamp,
                       e.fields.staleLimit.getD s.agent.settings.staleLimit, e.fields.stale, a⟩,
                      s.map.active, some e.fields.inputTag⟩]
                else s.classifier.offered }
            reports := if missed = 0 then s.reports else s.reports ++ [.event .sequenceGaps] }

/-- CELL_CLASSIFICATION of an unmapped cell: dropped, stopped by the collision guard, or offered (R7, R8). -/
def Obligations.UnmappedCellClassified : Prop :=
  ∀ (s : State) (c : Cell) (a : Lt) (rest : List ClassItem), s.classifier.input = .cell c a :: rest →
    c.hdr.tag ≠ s.agent.cmdTag → s.map.activeBank.find c.hdr.tag = none →
    let bank := s.map.activeBank
    let counted (k : BankCounters) : Host.Outcome State Fault Refusal :=
      .next { s with
        classifier := { s.classifier with input := rest }
        map := s.map.setBank s.map.active { bank with counters := k } }
    (bank.default = .drop → exec .cellClassification s =
      counted { bank.counters with unmappedDropped := Counter.inc bank.counters.unmappedDropped })
      ∧ (bank.default = .pass → c.hdr.tag ∈ outputTags s → exec .cellClassification s =
        counted { bank.counters with collisionDrops := Counter.inc bank.counters.collisionDrops })
      ∧ (bank.default = .pass → c.hdr.tag ∉ outputTags s → exec .cellClassification s =
        .next { s with classifier := { s.classifier with
          input := rest
          offered := s.classifier.offered ++
            [⟨⟨c, c.hdr.tag, c.hdr.seq, false, s.agent.settings.staleLimit, .dropStale, a⟩, s.map.active, none⟩] } })

/-- MEDIA_ADMISSION: pause first, then congestion, else the tail of the media queue; each counted in the entry that matched or in the bank
of the classification (R48). QUEUE_EMPTY_EVENT: in PAUSING the state becomes PAUSED and a PAUSE in flight ends DONE; elsewhere, or with cells
admitted since (log 20), nothing changes (R53, R148). -/
def Obligations.AdmissionAndDrain : Prop :=
  (∀ (s : State) (o : Offer) (rest : List Offer), s.classifier.offered = o :: rest →
      let bank := s.map.bank o.bank
      let counted (onEntry : EntryCounters → EntryCounters) (onBank : BankCounters → BankCounters) : MapStore :=
        s.map.setBank o.bank
          (match o.entry with
           | some t => bank.modify t fun y => { y with counters := onEntry y.counters }
           | none => { bank with counters := onBank bank.counters })
      (s.classifier.admission ≠ .forwarding → exec .mediaAdmission s =
        .next { s with
          classifier := { s.classifier with offered := rest }
          map := counted (fun k => { k with dropPaused := Counter.inc k.dropPaused })
            (fun k => { k with unmappedDropped := Counter.inc k.unmappedDropped }) })
        ∧ (s.classifier.admission = .forwarding → 480 ≤ s.queues.media.length → exec .mediaAdmission s =
          .next { s with
            classifier := { s.classifier with offered := rest }
            map := counted (fun k => { k with dropCongestion := Counter.inc k.dropCongestion })
              (fun k => { k with unmappedDropped := Counter.inc k.unmappedDropped })
            reports := s.reports ++ [.event .mediaCongestion] })
        ∧ (s.classifier.admission = .forwarding → s.queues.media.length < 480 → exec .mediaAdmission s =
          .next { s with
            classifier := { s.classifier with offered := rest }
            map := counted (fun k => { k with queued := Counter.inc k.queued })
              (fun k => { k with unmappedForwarded := Counter.inc k.unmappedForwarded })
            queues := { s.queues with media := s.queues.media ++ [o.media] } }))
    ∧ (∀ (s : State) (n : Nat), s.classifier.queueEmpties = n + 1 →
      (s.classifier.admission = .pausing → s.queues.media = [] → exec .queueEmptyEvent s =
        .next { s with
          classifier := { s.classifier with queueEmpties := n, admission := .paused }
          agent := { s.agent with
            longOp := match s.agent.longOp with
              | .inFlight .pause q => .ended .pause q .done
              | l => l } })
        ∧ ((s.classifier.admission ≠ .pausing ∨ s.queues.media ≠ []) → exec .queueEmptyEvent s =
          .next { s with classifier := { s.classifier with queueEmpties := n } }))

/-! ## Map Store -/

/-- SYNC_LOSS_RESYNC: every record in TRACKING of both banks becomes RESYNC, and the Capture Engine's report follows (R41; log 26). -/
def Obligations.SyncLossResyncs : Prop :=
  ∀ (s : State) (took : Bool) (rest : List ClassItem), s.classifier.input = .syncLoss took :: rest →
    let turn (e : Entry) : Entry :=
      match e.track.mode with
      | .tracking last => { e with track := ⟨.resync last, e.track.nextOut⟩ }
      | _ => e
    exec .syncLossResync s =
      .next { s with
        classifier := { s.classifier with input := rest }
        map := { s.map with
          bankA := { s.map.bankA with entries := s.map.bankA.entries.map turn }
          bankB := { s.map.bankB with entries := s.map.bankB.entries.map turn } }
        capture := { s.capture with input := if took then s.capture.input else s.capture.input ++ [.syncLoss] } }

/-- COMMIT_DUE: nothing before the due time; at it, the swap and COMPLETION DONE, or COMPLETION FAILED with the first offending tag (R21,
R22, R148). -/
def Obligations.CommitFallsDue : Prop :=
  ∀ (s : State) (p : PendingCommit), s.map.pendingCommit = some p → s.agent.longOp = .inFlight .commit p.cmdSeq →
    (reached s.lt p.due = false → exec .commitDue s = .next s)
      ∧ (reached s.lt p.due = true → validate s = none →
        let t := swapped s
        exec .commitDue s = .next { t with
          map := { t.map with pendingCommit := none }
          agent := { s.agent with longOp := .ended .commit p.cmdSeq .done } })
      ∧ ∀ check tag, reached s.lt p.due = true → validate s = some (check, tag) →
        exec .commitDue s = .next { s with
          map := { s.map with pendingCommit := none }
          agent := { s.agent with longOp := .ended .commit p.cmdSeq (.failed tag) } }

/-- What the new active bank inherits, entry by entry, and the bindings it hands to the Capture Engine (R22, R23). -/
def Obligations.SwapInheritsAndBinds : Prop :=
  (∀ (old : Bank) (e : Entry),
    (old.find e.fields.inputTag = none → inheritTracking old e = e)
      ∧ ∀ o, old.find e.fields.inputTag = some o →
        ((o.fields.numbering = .renumber ∧ e.fields.numbering = .renumber ∧ o.fields.effectiveTag = e.fields.effectiveTag →
            inheritTracking old e = { e with track := ⟨o.track.mode, o.track.nextOut⟩ })
          ∧ (¬ (o.fields.numbering = .renumber ∧ e.fields.numbering = .renumber
                ∧ o.fields.effectiveTag = e.fields.effectiveTag) →
            inheritTracking old e = { e with track := ⟨o.track.mode, e.track.nextOut⟩ })))
    ∧ ∀ (b : Bank) (i : Fin 8) (t : Tag), (namedContexts b).Nodup →
        (b.bindings[i] = some t ↔
          ∃ e ∈ b.entries, e.fields.captures = true ∧ e.fields.context = some i ∧ e.fields.inputTag = t)

/-- Commit validation passes exactly a shadow bank without an offending entry, and otherwise names the lowest offending input tag with the
first check of R18's table that its entry fails (R18, R185). -/
def Obligations.ValidationNamesTheLowest : Prop :=
  ∀ s : State, BankLegal s.map.shadowBank →
    (validate s = none ↔ ∀ e ∈ s.map.shadowBank.entries, ¬ Offends s e)
      ∧ ∀ check tag, validate s = some (check, tag) →
        (∃ e ∈ s.map.shadowBank.entries, e.fields.inputTag = tag ∧ FirstFailed s e check)
          ∧ ∀ e ∈ s.map.shadowBank.entries, Offends s e → tag ≤ e.fields.inputTag

/-! ## Capture Engine -/

/-- CAPTURE_HANDOFF: a context in IDLE, or an ARMED one that meets no start cell, ignores the cell; a start cell that fails a header check, and
a cell that fails a check in ASSEMBLING, are abandonments; after the latter a start cell is taken again (R82, R84, R86). The accounting of a
cell that does not complete its message (R83). -/
def Obligations.HandoffTaken : Prop :=
  (∀ (s : State) (h : Handoff) (rest : List CaptureItem), s.capture.input = .handoff h :: rest →
      let s0 : State := { s with capture := { s.capture with input := rest } }
      (s.capture.contexts[h.context].state = .idle → exec .captureHandoff s = .next s0)
        ∧ (s.capture.contexts[h.context].state = .armed → ¬ StartsMessage h → exec .captureHandoff s = .next s0)
        ∧ (s.capture.contexts[h.context].state = .armed → StartsMessage h →
            (h.cell.hdr.len.toNat < 4 ∨ 32 ≤ (h.cell.payload.getD 1 0).toNat) →
            exec .captureHandoff s = .next (abandoned s0 h.context .format))
        ∧ (s.capture.contexts[h.context].state = .armed → StartsMessage h → 4 ≤ h.cell.hdr.len.toNat →
            (h.cell.payload.getD 1 0).toNat < 32 → 2040 < declaredLength h →
            exec .captureHandoff s = .next (abandoned s0 h.context .length))
        ∧ ∀ p, s.capture.contexts[h.context].state = .assembling p → ∀ why : LossReason,
            ((h.gap = true ∧ why = .gap) ∨ (h.gap = false ∧ h.cell.hdr.f = true ∧ why = .damage)
              ∨ (h.gap = false ∧ h.cell.hdr.f = false ∧ (h.cell.hdr.u = true ∨ h.cell.hdr.k = true) ∧ why = .format)) →
            (¬ StartsMessage h → exec .captureHandoff s = .next (abandoned s0 h.context why))
              ∧ (StartsMessage h → exec .captureHandoff s = exec .captureHandoff (abandoned s h.context why)))
    ∧ (∀ (s : State) (h : Handoff) (rest : List CaptureItem) (p : Partial), s.capture.input = .handoff h :: rest → TakesInto s h p →
      let s0 : State := { s with capture := { s.capture with input := rest } }
      let n := h.cell.hdr.len.toNat
      (n < stillToCome p → n = 122 → exec .captureHandoff s =
        .next (withContext s0 h.context { s.capture.contexts[h.context] with
          state := .assembling { p with held := p.held ++ h.cell.payload.take n } }))
        ∧ (n < stillToCome p → n ≠ 122 → exec .captureHandoff s = .next (abandoned s0 h.context .format))
        ∧ (stillToCome p < n → exec .captureHandoff s = .next (abandoned s0 h.context .length)))

/-- CAPTURE_HANDOFF: the fate of a message that its cell completes: CRC, type filter, version mode, filing or overrun, in that order (R85,
R90, R92). -/
def Obligations.CompleteMessageFate : Prop :=
  ∀ (s : State) (h : Handoff) (rest : List CaptureItem) (p : Partial) (f : Filter), s.capture.input = .handoff h :: rest →
    TakesInto s h p → s.capture.contexts[h.context].filter = some f → h.cell.hdr.len.toNat = stillToCome p →
    let s0 : State := { s with capture := { s.capture with input := rest } }
    let i := h.context
    let x := s.capture.contexts[i]
    let bytes := p.held ++ h.cell.payload.take (stillToCome p)
    let sound : Prop := beVal (bytes.drop (bytes.length - 4)) = (crc32 (bytes.take (bytes.length - 4))).toNat
    let typed : Prop := f.type = none ∨ f.type = some p.type
    let repeats : Prop := f.mode = .changed ∧ x.lastVersion = some p.version
    (¬ sound → exec .captureHandoff s = .next (abandoned s0 i .crc))
      ∧ (sound → ¬ typed → exec .captureHandoff s = .next (withContext s0 i { x with state := .armed }))
      ∧ (sound → typed → repeats → exec .captureHandoff s = .next (withContext s0 i { x with
          state := .armed, counters := { x.counters with repeats := Counter.inc x.counters.repeats } }))
      ∧ (sound → typed → ¬ repeats → (∀ r : Fin 4, s.capture.store[r].isSome = true) → exec .captureHandoff s =
          .next { withContext s0 i { x with
              state := .armed, counters := { x.counters with overruns := Counter.inc x.counters.overruns } } with
            reports := s.reports ++ [.event .captureLoss] })
      ∧ ∀ r : Fin 4, sound → typed → ¬ repeats → s.capture.store[r] = none →
          (∀ q : Fin 4, q < r → s.capture.store[q].isSome = true) → exec .captureHandoff s =
          .next { s with capture := { s.capture with
            input := rest
            store := setAt s.capture.store r (some ⟨i, p.source, p.type, p.version, (bytes.drop 4).take p.bodyLen, p.firstArrival,
              s.lt, s.agent.session.isSome⟩)
            filing := s.capture.filing ++ [r]
            contexts := setAt s.capture.contexts i { x with
              state := .armed, lastVersion := some p.version
              counters := { x.counters with delivered := Counter.inc x.counters.delivered } } } }

/-- ASSEMBLY_DEADLINE_REACHED (R87). CAPTURE_BINDING_UPDATE replaces every binding and abandons with UNBOUND the assembling contexts whose
source is no longer bound (R88). SYNC_LOSS_CAPTURE_ABANDON, from either place the report may stand in, abandons every assembling context with
LINE (R89). -/
def Obligations.LossesWithoutACell : Prop :=
  (∀ (s : State) (i : Fin 8),
      (∀ p, s.capture.contexts[i].state = .assembling p → reached s.lt p.deadline = true →
        exec (.assemblyDeadlineReached i) s = .next (abandoned s i .timeout))
        ∧ (∀ p, s.capture.contexts[i].state = .assembling p → reached s.lt p.deadline = false →
          exec (.assemblyDeadlineReached i) s = .next s)
        ∧ ((s.capture.contexts[i].state = .idle ∨ s.capture.contexts[i].state = .armed) →
          exec (.assemblyDeadlineReached i) s = .next s))
    ∧ (∀ (s : State) (b : Vector (Option Tag) 8) (rest : List CaptureItem), s.capture.input = .bindings b :: rest →
      let unbound (i : Fin 8) : Bool :=
        match s.capture.contexts[i].state with
        | .assembling p => !decide (b[i] = some p.source)
        | _ => false
      ∃ contexts : Vector Context 8,
        exec .captureBindingUpdate s = .next { s with
          capture := { s.capture with input := rest, contexts := contexts }
          reports := s.reports ++ List.replicate (contextNumbers.countP unbound) (.event .captureLoss) }
        ∧ ∀ i : Fin 8,
            (unbound i = true → contexts[i] = { s.capture.contexts[i] with
              binding := b[i], state := .armed, lastLoss := some (.unbound, s.lt)
              counters := { s.capture.contexts[i].counters with
                abandoned := Counter.inc s.capture.contexts[i].counters.abandoned } })
            ∧ (unbound i = false → contexts[i] = { s.capture.contexts[i] with binding := b[i] }))
    ∧ (∀ s : State,
      let assembles (i : Fin 8) : Bool :=
        match s.capture.contexts[i].state with
        | .assembling _ => true
        | _ => false
      ∃ contexts : Vector Context 8,
        (∀ rest, s.capture.input = .syncLoss :: rest → exec .syncLossCaptureAbandon s = .next { s with
          capture := { s.capture with input := rest, contexts := contexts }
          reports := s.reports ++ List.replicate (contextNumbers.countP assembles) (.event .captureLoss) })
        ∧ (∀ rest, s.capture.input = [] → s.classifier.input = .syncLoss false :: rest →
          exec .syncLossCaptureAbandon s = .next { s with
            classifier := { s.classifier with input := .syncLoss true :: rest }
            capture := { s.capture with contexts := contexts }
            reports := s.reports ++ List.replicate (contextNumbers.countP assembles) (.event .captureLoss) })
        ∧ ∀ i : Fin 8,
            (assembles i = true → contexts[i] = { s.capture.contexts[i] with
              state := .armed, lastLoss := some (.line, s.lt)
              counters := { s.capture.contexts[i].counters with
                abandoned := Counter.inc s.capture.contexts[i].counters.abandoned } })
            ∧ (assembles i = false → contexts[i] = s.capture.contexts[i]))

/-! ## Carousel Engine -/

/-- SLOT_DUE of a RUNNING slot whose due time is reached: it waits on the due list, kept in the order of choice, while an emission is in
progress; else its emission starts, or, without an image, only its next due LT is set (R107 to R110). -/
def Obligations.SlotFallsDue : Prop :=
  ∀ (s : State) (i : Fin 16) (d : SlotData), s.carousel.slots[i] = some d →
    (d.run ≠ .running ∨ reached s.lt d.nextDue = false ∨ i ∈ s.carousel.due → exec (.slotDue i) s = .next s)
      ∧ (d.run = .running → reached s.lt d.nextDue = true → i ∉ s.carousel.due →
        (∀ e, s.carousel.emission = some e → ∃ due : List (Fin 16),
          exec (.slotDue i) s = .next { s with carousel := { s.carousel with due := due } }
            ∧ due.Perm (i :: s.carousel.due)
            ∧ due.Pairwise fun j k => s.carousel.age s.lt k < s.carousel.age s.lt j
                ∨ (s.carousel.age s.lt k = s.carousel.age s.lt j ∧ j ≤ k))
        ∧ (s.carousel.emission = none → s.carousel.due = [] → HasImage d →
          exec (.slotDue i) s = .next (emissionStarted s i d (intervalsPassed s d)))
        ∧ (s.carousel.emission = none → s.carousel.due = [] → ¬ HasImage d →
          exec (.slotDue i) s = .next (withSlot s i
            (some { d with nextDue := d.nextDue + BitVec.ofNat 48 (intervalsPassed s d * (25000 * d.interval)) }))))

/-- The next due LT of R110 is the first time of the sequence D + I, D + 2I, … that is not yet reached. -/
def Obligations.NextDueIsFirstNotReached : Prop :=
  ∀ (s : State) (d : SlotData), 10 ≤ d.interval → d.interval ≤ 10000 → reached s.lt d.nextDue = true →
    reached s.lt (d.advanceDue s.lt) = false
      ∧ ∃ k, 1 ≤ k ∧ d.advanceDue s.lt = d.nextDue + BitVec.ofNat 48 (k * (25000 * d.interval))
        ∧ ∀ j, j < k → reached s.lt (d.nextDue + BitVec.ofNat 48 (j * (25000 * d.interval))) = true

/-- A free engine chooses the due slot that has been due longest, the lowest number on a tie: it starts its emission, or, where the slot
has no image, only moves its next due LT on and chooses among the others (R108, R109). -/
def Obligations.LongestDueIsChosen : Prop :=
  ∀ (s : State) (i : Fin 16) (d : SlotData), s.carousel.emission = none → s.carousel.due.Nodup → i ∈ s.carousel.due →
    s.carousel.slots[i] = some d →
    (∀ j ∈ s.carousel.due, s.carousel.age s.lt j < s.carousel.age s.lt i
      ∨ (s.carousel.age s.lt j = s.carousel.age s.lt i ∧ i ≤ j)) →
    (HasImage d → ∃ due : List (Fin 16), due.Perm (s.carousel.due.erase i)
        ∧ State.choose s = emissionStarted { s with carousel := { s.carousel with due := due } } i d (intervalsPassed s d))
      ∧ (¬ HasImage d → State.choose s = State.choose { s with carousel := { s.carousel with
          slots := setAt s.carousel.slots i (some { d with nextDue := d.advanceDue s.lt })
          due := s.carousel.due.erase i } })

/-- TABLE_CELL_PLACEMENT: the next cell goes into a free table buffer under the slot's output sequence; the last one ends the emission, and
the engine chooses again; with 24 cells queued the engine waits (R50, R111 to R113). -/
def Obligations.TableCellPlaced : Prop :=
  ∀ (s : State) (e : Emission) (d : SlotData), s.carousel.emission = some e → s.carousel.slots[e.slot] = some d →
    (24 ≤ s.queues.table.length → exec .tableCellPlacement s = .next s)
      ∧ (s.queues.table.length < 24 →
        let cell : TableCell :=
          ⟨buildCell d.outTag d.outSeq (decide (e.placed = 0)) ((e.message.drop (122 * e.placed)).take 122), d.outTag, d.outSeq⟩
        let queues : Queues := { s.queues with table := s.queues.table ++ [cell] }
        let last : State := { s with
          queues := queues
          carousel := { s.carousel with
            slots := setAt s.carousel.slots e.slot (some { d with
              outSeq := d.outSeq + 1, emissions := Counter.inc d.emissions
              run := if d.run = .stopping then .defined else d.run })
            emission := none } }
        (e.placed + 1 < cellCount e.message.length → exec .tableCellPlacement s = .next { s with
          queues := queues
          carousel := { s.carousel with
            slots := setAt s.carousel.slots e.slot (some { d with outSeq := d.outSeq + 1 })
            emission := some { e with placed := e.placed + 1 } } })
        ∧ (cellCount e.message.length ≤ e.placed + 1 → exec .tableCellPlacement s = .next (State.choose last))
        ∧ (cellCount e.message.length ≤ e.placed + 1 → s.carousel.due = [] → exec .tableCellPlacement s = .next last))

/-! ## Output Scheduler -/

/-- SLOT_DECISION: management, then the table's turn, then the media head that is not discarded, then filler, with the counters (R57, R58,
R60 to R62, R73, R76); the first slot after a hard reset carries filler whatever is queued (R64, R133; log 9); no slot begins while RESET_N
is low or a restart is due (R63, R133; log 24). The slot's bytes are driven with OSTART high for the first only (R132). -/
def Obligations.SlotDecided : Prop :=
  ∀ s : State,
    ((s.resetLow = true ∨ s.sched.restartMark.isSome = true) → exec .slotDecision s = .next s)
      ∧ (s.resetLow = false → s.sched.restartMark = none →
        let k := s.sched.counters
        (s.sched.outSlot = none → exec .slotDecision s =
          .next (slotBegun s s.queues (shareRaised s) { k with fillerSent := Counter.inc k.fillerSent }
            ⟨cellBytes fillerCell 0 0, none⟩))
        ∧ (∃ t o, exec .slotDecision s = .next t ∧ t.sched.outSlot = some o
          ∧ ∀ n, t.outLines n = ⟨o.bytes.getD n 0, decide (n = 0)⟩)
        ∧ (s.sched.outSlot.isSome = true →
          (∀ c rest, s.queues.mgmt = c :: rest → exec .slotDecision s =
          .next (slotBegun s { s.queues with mgmt := rest } (shareRaised s)
            { k with managementSent := Counter.inc k.managementSent } ⟨cellBytes c.cell c.outTag c.outSeq, c.mark⟩))
        ∧ (∀ c rest, s.queues.mgmt = [] → s.queues.table = c :: rest → TableTurn s → exec .slotDecision s =
          .next (slotBegun s { s.queues with table := rest } 0
            { k with tableSent := Counter.inc k.tableSent } ⟨cellBytes c.cell c.outTag c.outSeq, none⟩))
        ∧ (∀ m rest, s.queues.mgmt = [] → ¬ TableTurn s → s.queues.media = m :: rest → ¬ StaleDiscard s m →
          exec .slotDecision s =
          .next { slotBegun s { s.queues with media := rest } (shareRaised s)
              { k with
                mediaSent := Counter.inc k.mediaSent
                staleSent := if m.staleLimit < (s.lt - m.arrival).toNat then Counter.inc k.staleSent else k.staleSent
                shortStamp := if m.restamp = true ∧ m.cell.hdr.k = true ∧ m.cell.hdr.len.toNat < 6 then Counter.inc k.shortStamp
                  else k.shortStamp }
              ⟨cellBytes (m.sent s.lt) m.outTag m.outSeq, none⟩ with
            classifier := { s.classifier with
              queueEmpties := if rest = [] then s.classifier.queueEmpties + 1 else s.classifier.queueEmpties } })
        ∧ (s.queues.mgmt = [] → s.queues.table = [] → s.queues.media = [] → exec .slotDecision s =
          .next (slotBegun s s.queues (shareRaised s) { k with fillerSent := Counter.inc k.fillerSent }
            ⟨cellBytes fillerCell 0 0, none⟩))))

/-- SLOT_DECISION at a stale head under DROP_STALE: the head is discarded, counted and reported, and the decision is remade for the same
slot without it (R59, R73, R74). -/
def Obligations.StaleHeadDiscarded : Prop :=
  ∀ (s : State) (m : MediaCell) (rest : List MediaCell), s.resetLow = false → s.sched.restartMark = none →
    s.sched.outSlot.isSome = true → s.queues.mgmt = [] → ¬ TableTurn s → s.queues.media = m :: rest → StaleDiscard s m →
    exec .slotDecision s = exec .slotDecision { s with
      queues := { s.queues with media := rest }
      sched := { s.sched with counters := { s.sched.counters with staleDropped := Counter.inc s.sched.counters.staleDropped } }
      reports := s.reports ++ [.event .staleDrops]
      classifier := { s.classifier with
        queueEmpties := if rest = [] then s.classifier.queueEmpties + 1 else s.classifier.queueEmpties } }

/-- The cell a media cell is sent as: restamped by its residence when restamp is on, K set and the payload length 6 or more; else unchanged
(R71, R75, R76). -/
def Obligations.StampCorrected : Prop :=
  ∀ (m : MediaCell) (departure : Lt),
    (m.restamp = true ∧ m.cell.hdr.k = true ∧ 6 ≤ m.cell.hdr.len.toNat → m.sent departure = { m.cell with
      payload := beBytes 6 ((beVal (m.cell.payload.take 6) + (departure - m.arrival).toNat) % 2 ^ 48) ++ m.cell.payload.drop 6 })
      ∧ (¬ (m.restamp = true ∧ m.cell.hdr.k = true ∧ 6 ≤ m.cell.hdr.len.toNat) → m.sent departure = m.cell)

/-- Every slot advances the sum of the four sent counters by exactly one below saturation, and touches no other block but the queues, the
Classifier's empty reports and the condition reports (R62). -/
def Obligations.OneSentCounterPerSlot : Prop :=
  ∀ s : State, s.resetLow = false → s.sched.restartMark = none →
    let sum (k : OutCounters) : Nat := k.managementSent.toNat + k.tableSent.toNat + k.mediaSent.toNat + k.fillerSent.toNat
    let k := s.sched.counters
    k.managementSent.toNat < 4294967295 → k.tableSent.toNat < 4294967295 → k.mediaSent.toNat < 4294967295 →
    k.fillerSent.toNat < 4294967295 →
    ∃ t, exec .slotDecision s = .next t ∧ sum t.sched.counters = sum k + 1
      ∧ t = { s with
          queues := t.queues, sched := t.sched, reports := t.reports
          classifier := { s.classifier with queueEmpties := t.classifier.queueEmpties } }

/-! ## Agent: conditions, session end, notices, restarts -/

/-- CONDITION_EVENT and LINE_CAUSE_GONE: the next report of a block is taken by its entry according to the entry's state (R161, R162, R164).
SESSION_EXPIRY: a reached deadline ends the session; nothing else does (R140, R154). -/
def Obligations.AgentEventsTaken : Prop :=
  ((∀ (s : State) (k : CondKind) (before after : List Report), NextReport (.event k) before after s →
      ((s.agent.cond k).state = .clear → exec (.conditionEvent k) s = .next { s with
          reports := before ++ after
          agent := s.agent.setCond k ⟨.raised, 1, some s.lt, s.agent.session.isSome⟩ })
        ∧ ((s.agent.cond k).state ≠ .clear → exec (.conditionEvent k) s = .next { s with
          reports := before ++ after
          agent := s.agent.setCond k { s.agent.cond k with count := Counter.inc (s.agent.cond k).count } }))
      ∧ ∀ (s : State) (before after : List Report), NextReport .causeGone before after s →
          let e := s.agent.cond .lineUnlocked
          (e.state = .raised → exec .lineCauseGone s = .next { s with
              reports := before ++ after
              agent := s.agent.setCond .lineUnlocked { e with state := .clear, noticeOwed := false } })
            ∧ (e.state = .acknowledged → exec .lineCauseGone s = .next { s with
              reports := before ++ after
              agent := s.agent.setCond .lineUnlocked { e with state := .clear } })
            ∧ (e.state = .clear → exec .lineCauseGone s = .next { s with
              reports := before ++ after
              agent := s.agent.setCond .lineUnlocked e }))
    ∧ (∀ s : State,
      (s.agent.session = none → exec .sessionExpiry s = .next s)
        ∧ ∀ x, s.agent.session = some x →
          (reached s.lt x.deadline = false → exec .sessionExpiry s = .next s)
            ∧ (reached s.lt x.deadline = true → exec .sessionExpiry s = .next (ended s)))

/-- COMPLETION_NOTICE, CAPTURE_READY_NOTICE and CONDITION_NOTICE: built when allowed, in that order of choice, with the contents of the
tables, clearing what was owed (R92, R150 to R153, R208; log 17). -/
def Obligations.NoticesBuilt : Prop :=
  ∀ (s : State) (x : Session), MayNotice s x →
    (∀ k q o, s.agent.longOp = .ended k q o → exec .completionNotice s =
      .next (noticed s { s with agent := { s.agent with longOp := .none } } x 1
        ([q, k.toByte, o.toByte] ++ (match o with
          | .failed t => [10, 1] ++ beBytes 2 t.toNat
          | _ => [0, 0] ++ beBytes 2 Config.absentOffendingTag.toNat))))
      ∧ (∀ (before after : List (Fin 4)) (i : Fin 4) (r : Record), s.agent.longOp.isEnded = false →
          s.capture.filing = before ++ i :: after → (∀ j ∈ before, ∀ y, s.capture.store[j] = some y → y.noticeOwed = false) →
          s.capture.store[i] = some r → r.noticeOwed = true → exec .captureReadyNotice s =
          .next (noticed s { s with capture := { s.capture with
              store := setAt s.capture.store i (some { r with noticeOwed := false }) } } x 2
            ([BitVec.ofNat 8 i.val, BitVec.ofNat 8 r.context.val] ++ beBytes 2 r.source.toNat
              ++ [r.type, BitVec.ofNat 8 r.version.toNat] ++ beBytes 2 r.body.length ++ beBytes 6 r.firstArrival.toNat
              ++ beBytes 6 r.completion.toNat)))
      ∧ ∀ k, s.agent.longOp.isEnded = false → s.capture.firstOwed = none → (s.agent.cond k).noticeOwed = true →
          (∀ j, kindIndex j < kindIndex k → (s.agent.cond j).noticeOwed = false) → exec .conditionNotice s =
          .next (noticed s { s with agent := s.agent.setCond k { s.agent.cond k with noticeOwed := false } } x 3
            ([condCode k, (s.agent.cond k).state.toByte] ++ beBytes 4 (s.agent.cond k).count.toNat
              ++ beBytes 6 ((s.agent.cond k).firstLt.getD 0).toNat))

/-- WARM_RESTART, taken at the end of the slot that carries the reply marked WARM: what every block keeps and loses (R28, R63, R65, R68, R98,
R118, R131, R158, R167; log 10, log 11, log 22). Every RUNNING slot is due at once; the lowest with an image is emitted, those below it only
have their next due LT moved on, and those above it wait on the due list (R109, R118). -/
def Obligations.WarmRestartTaken : Prop :=
  ∀ s : State, s.sched.restartMark = some .warm →
    let fresh (b : Bank) : Bank := { b with entries := b.entries.map fun e => { e with track := ⟨.unseen, 0⟩ } }
    ∃ t, exec .warmRestart s = .next t
      ∧ t.resetLow = s.resetLow ∧ t.lt = s.lt ∧ t.pending = s.pending ∧ t.reports = []
      ∧ (t.line.delin = .hunt ∧ t.line.receiving = none ∧ t.line.examinedLt = s.lt ∧ t.line.examinedAgo = 0 ∧ t.line.counters = s.line.counters)
      ∧ t.classifier = ⟨[], .forwarding, [], 0⟩
      ∧ t.map = { s.map with bankA := fresh s.map.bankA, bankB := fresh s.map.bankB, pendingCommit := none }
      ∧ (t.queues.mgmt = [] ∧ t.queues.table = [] ∧ t.queues.media = [])
      ∧ (t.sched.shareCount = s.agent.settings.tableShare ∧ t.sched.counters = s.sched.counters ∧ t.sched.restartMark = none
          ∧ t.sched.outSlot.map OutSlot.bytes = s.sched.outSlot.map OutSlot.bytes)
      ∧ t.agent = { s.agent with
          mode := .serving, session := none, cmdQueue := [], longOp := .none
          conds := Vector.replicate 8 ⟨.clear, 0, none, false⟩ }
      ∧ ((∀ i : Fin 8, t.capture.contexts[i] = { s.capture.contexts[i] with
            lastVersion := none, binding := s.map.activeBank.bindings[i]
            state := if s.capture.contexts[i].state = .idle then .idle else .armed })
          ∧ (∀ r : Fin 4, t.capture.store[r] = none) ∧ t.capture.filing = [] ∧ t.capture.input = [])
      ∧ (∀ i : Fin 16, s.carousel.slots[i] = none → t.carousel.slots[i] = none)
      ∧ (∀ (i : Fin 16) (d : SlotData), s.carousel.slots[i] = some d → d.run ≠ .running →
          t.carousel.slots[i] = some { d with run := .defined })
      ∧ (∀ (i : Fin 16) (d : SlotData), s.carousel.slots[i] = some d → d.run = .running → HasImage d →
          (∀ (j : Fin 16) (y : SlotData), j < i → s.carousel.slots[j] = some y → y.run = .running → ¬ HasImage y) →
          let begun := (emissionStarted s i { d with nextDue := s.lt } 1).carousel
          t.carousel.emission = begun.emission ∧ t.carousel.slots[i] = begun.slots[i]
            ∧ t.carousel.due = (runningSlots s).filter (fun j => decide (i < j))
            ∧ (∀ (j : Fin 16) (y : SlotData), i < j → s.carousel.slots[j] = some y → y.run = .running →
                t.carousel.slots[j] = some { y with nextDue := s.lt })
            ∧ ∀ (j : Fin 16) (y : SlotData), j < i → s.carousel.slots[j] = some y → y.run = .running →
                t.carousel.slots[j] = some { y with nextDue := s.lt + BitVec.ofNat 48 (25000 * y.interval) })
      ∧ ((∀ (i : Fin 16) (d : SlotData), s.carousel.slots[i] = some d → d.run = .running → ¬ HasImage d) →
          t.carousel.emission = none ∧ t.carousel.due = []
            ∧ ∀ (j : Fin 16) (y : SlotData), s.carousel.slots[j] = some y → y.run = .running →
                t.carousel.slots[j] = some { y with nextDue := s.lt + BitVec.ofNat 48 (25000 * y.interval) })

/-- COLD_RESTART, taken at the end of the slot that carries the reply marked COLD: every block at its reset state, the line's bytes as they
were (R63, R64, R68, R97, R117, R131, R133, R159). -/
def Obligations.ColdRestartTaken : Prop :=
  ∀ s : State,
    (s.sched.restartMark = some .cold → exec .coldRestart s = .next { State.reset with
      resetLow := s.resetLow
      sched := { State.reset.sched with outSlot := s.sched.outSlot.map fun o => { o with mark := none } }
      pending := s.pending })
      ∧ (s.sched.restartMark ≠ some .cold → exec .coldRestart s = .next s)
      ∧ (s.sched.restartMark ≠ some .warm → exec .warmRestart s = .next s)

/-! ## Agent: judging a command -/

/-- Steps 1 to 3 of R142 for every session command and for unknown codes: NO_SESSION, the expiry within the step, NOT_OWNER with the time
left, the repeat from the cache, OUT_OF_ORDER with E (R140, R142, R143, R174). -/
def Obligations.StepsOneToThree : Prop :=
  ∀ (i : Instr) (code : Byte), ((i, code) ∈ sessionCommands ∨ (i = .unknownCommand ∧ code ∉ commandCodes)) →
    ∀ (s : State) (c : Command) (rest : List Cell), Takes s code c rest →
      (s.agent.session = none → exec i s = .next (answered s c rest ⟨.refused, .noSession, []⟩))
        ∧ ∀ x, s.agent.session = some x →
          (reached s.lt x.deadline = true → exec i s = .next (answered (ended s) c rest ⟨.refused, .noSession, []⟩))
          ∧ (reached s.lt x.deadline = false → c.session ≠ x.number →
            exec i s = .next (answered s c rest
              ⟨.refused, .notOwner, beBytes 4 (((x.deadline - s.lt).toNat + 24999) / 25000)⟩))
          ∧ (reached s.lt x.deadline = false → c.session = x.number → c.seq = x.expected - 1 →
            exec i s = .next (repeated s rest x))
          ∧ (reached s.lt x.deadline = false → c.session = x.number → c.seq ≠ x.expected → c.seq ≠ x.expected - 1 →
            exec i s = .next (answered s c rest ⟨.refused, .outOfOrder, [x.expected]⟩))

/-- A command of the open session, in sequence, one of whose arguments fails is executed as a BAD_ARGUMENT refusal that names the first
argument that fails: one whose bytes are not all there, one out of range, a code that is not assigned, or a broken constraint (R142, R144,
R173, R174, R180 to R202; log 19). -/
def Obligations.BadArgumentNamesTheFirst : Prop :=
  ∀ (i : Instr) (code : Byte) (arguments : List Arg), (i, code, arguments) ∈ argumentTable →
    ∀ (s : State) (c : Command) (rest : List Cell) (x : Session) (pos : Nat), InSequence s code c rest x →
      firstBad arguments 1 [] c.args = some pos →
      exec i s = .next (executed s s c rest x ⟨.refused, .badArgument, [BitVec.ofNat 8 pos]⟩)

/-- IDENTIFY is answered whatever the session; OPEN opens, repeats, resynchronises or is refused (R138 to R140, R146, R175, R176). -/
def Obligations.IdentifyAndOpen : Prop :=
  (∀ (s : State) (c : Command) (rest : List Cell), Takes s 0x11 c rest → exec .identify s =
    .next (answered s c rest ⟨.done, .none,
      [0x00, 0xD1, 0x09, 0x6A, 1, 0, 0, 1, 0, 0, 0, 0, 8, 0, 0, 0, 4, 0, 0, 0, 16, 0, 0, 0, 8, 0, 0, 0, 24, 0, 0, 1, 224, 0, 0, 0, 4]⟩))
    ∧ ∀ (s : State) (c : Command) (rest : List Cell), Takes s 0x12 c rest →
      (s.agent.session = none → exec .openSession s = .next (opened (owedAll s) c rest 0))
        ∧ ∀ x, s.agent.session = some x →
          (reached s.lt x.deadline = true → exec .openSession s = .next (opened (owedAll (ended s)) c rest 0))
          ∧ (reached s.lt x.deadline = false → c.session ≠ x.number → exec .openSession s =
            .next (answered s c rest ⟨.refused, .notOwner, beBytes 4 (((x.deadline - s.lt).toNat + 24999) / 25000)⟩))
          ∧ (reached s.lt x.deadline = false → c.session = x.number → c.seq = x.expected - 1 →
            exec .openSession s = .next (repeated s rest x))
          ∧ (reached s.lt x.deadline = false → c.session = x.number → c.seq ≠ x.expected - 1 →
            exec .openSession s = .next (opened s c rest s.agent.noticeNo))

/-- CLOSE, PING, STATUS and a command of an unknown code, executed (R141, R142 step 4, R144, R154, R177 to R179). The layout of STATUS rests
on log 12, log 13 and log 33, its one instant on log 29. -/
def Obligations.ClosePingStatusUnknown : Prop :=
  ∀ (s : State) (c : Command) (rest : List Cell) (x : Session),
    (InSequence s 0x13 c rest x → exec .closeSession s = .next (ended (executed s s c rest x ⟨.done, .none, []⟩)))
      ∧ (InSequence s 0x14 c rest x → exec .ping s =
          .next (executed s s c rest x ⟨.done, .none, beBytes 6 s.lt.toNat⟩))
      ∧ (InSequence s 0x15 c rest x → exec .status s =
          .next (executed s s c rest x ⟨.done, .none, statusBytes s (x.expected + 1) rest.length⟩))
      ∧ ∀ code, code ∉ commandCodes → InSequence s code c rest x → exec .unknownCommand s =
          .next (executed s s c rest x ⟨.refused, .unknownCommand, []⟩)

/-! ## Map commands -/

/-- MAP_PUT, executed: BUSY, CONFLICT, MAP_FULL in that order, else the fresh entry stands in the shadow bank in its place (R12, R13, R180; the
flag's polarity is free, log 15). While an offer waits it is not taken (R48; log 21). -/
def Obligations.MapPutExecuted : Prop :=
  (∀ (s : State) (c : Command) (rest : List Cell) (x : Session) (f : EntryFields) (bytes extra : List Byte),
    InSequence s 0x21 c rest x → EntryLegal f → SpellsEntry f bytes → c.args = bytes ++ extra →
    (s.classifier.offered ≠ [] → exec .mapPut s = .next s)
    ∧ (s.classifier.offered = [] →
    let shadow := s.map.shadowBank
    let known : Bool := (shadow.find f.inputTag).isSome
    let entries := insertEntry ⟨f, ⟨.unseen, 0⟩, ⟨0, 0, 0, 0, 0, 0, 0, 0⟩⟩ shadow.entries
    (∀ p, s.map.pendingCommit = some p → exec .mapPut s =
      .next (executed s s c rest x ⟨.refused, .busy, [p.cmdSeq] ++ beBytes 6 p.due.toNat⟩))
      ∧ (s.map.pendingCommit = none → f.inputTag = s.agent.cmdTag → exec .mapPut s =
        .next (executed s s c rest x ⟨.refused, .conflict, [4] ++ beBytes 2 f.inputTag.toNat⟩))
      ∧ (s.map.pendingCommit = none → f.inputTag ≠ s.agent.cmdTag → 256 ≤ shadow.entries.length → known = false →
        exec .mapPut s = .next (executed s s c rest x ⟨.refused, .mapFull, []⟩))
      ∧ (s.map.pendingCommit = none → f.inputTag ≠ s.agent.cmdTag → (shadow.entries.length < 256 ∨ known = true) →
        exec .mapPut s = .next (executed s (withBank s s.map.shadowId { shadow with entries := entries }) c rest x
          ⟨.done, .none, [if known = true then flagByte (!Config.insertedIsSet) else flagByte Config.insertedIsSet]
            ++ beBytes 4 entries.length⟩))))
    ∧ ∀ (e : Entry) (es : List Entry), es.Pairwise (fun y z => y.fields.inputTag < z.fields.inputTag) →
        (insertEntry e es).Pairwise (fun y z => y.fields.inputTag < z.fields.inputTag)
          ∧ ∀ y, y ∈ insertEntry e es ↔ y = e ∨ (y ∈ es ∧ y.fields.inputTag ≠ e.fields.inputTag)

/-- MAP_REMOVE, MAP_CLEAR, MAP_COPY and MAP_DEFAULT, executed on the shadow bank (R12, R14 to R17, R181 to R183). While an offer waits none
of them is taken (R48; log 21). -/
def Obligations.ShadowEditsExecuted : Prop :=
  ∀ (s : State) (c : Command) (rest : List Cell) (x : Session) (tag : Tag) (d : DefaultAction) (extra : List Byte),
    tag ≠ 0 →
    (s.classifier.offered ≠ [] →
      (InSequence s 0x22 c rest x → c.args = beBytes 2 tag.toNat ++ extra → exec .mapRemove s = .next s)
        ∧ (InSequence s 0x23 c rest x → exec .mapClear s = .next s)
        ∧ (InSequence s 0x24 c rest x → exec .mapCopy s = .next s)
        ∧ (InSequence s 0x25 c rest x → c.args = d.toByte :: extra → exec .mapDefault s = .next s))
    ∧ (s.classifier.offered = [] →
    let shadow := s.map.shadowBank
    let active := s.map.activeBank
    let put (b : Bank) : State := withBank s s.map.shadowId b
    (∀ p, s.map.pendingCommit = some p →
      let busy := executed s s c rest x ⟨.refused, .busy, [p.cmdSeq] ++ beBytes 6 p.due.toNat⟩
      (InSequence s 0x22 c rest x → c.args = beBytes 2 tag.toNat ++ extra → exec .mapRemove s = .next busy)
        ∧ (InSequence s 0x23 c rest x → exec .mapClear s = .next busy)
        ∧ (InSequence s 0x24 c rest x → exec .mapCopy s = .next busy)
        ∧ (InSequence s 0x25 c rest x → c.args = d.toByte :: extra → exec .mapDefault s = .next busy))
      ∧ (s.map.pendingCommit = none →
        (InSequence s 0x22 c rest x → c.args = beBytes 2 tag.toNat ++ extra → shadow.find tag = none → exec .mapRemove s =
          .next (executed s s c rest x ⟨.refused, .notFound, []⟩))
        ∧ (InSequence s 0x22 c rest x → c.args = beBytes 2 tag.toNat ++ extra → (shadow.find tag).isSome = true →
          let left := shadow.entries.filter fun e => e.fields.inputTag != tag
          exec .mapRemove s =
            .next (executed s (put { shadow with entries := left }) c rest x ⟨.done, .none, beBytes 4 left.length⟩))
        ∧ (InSequence s 0x23 c rest x → exec .mapClear s =
          .next (executed s (put { shadow with entries := [], default := .drop }) c rest x ⟨.done, .none, []⟩))
        ∧ (InSequence s 0x24 c rest x → exec .mapCopy s =
          .next (executed s
            (put { shadow with
              entries := active.entries.map fun e => ⟨e.fields, ⟨.unseen, 0⟩, ⟨0, 0, 0, 0, 0, 0, 0, 0⟩⟩
              default := active.default }) c rest x
            ⟨.done, .none, beBytes 4 active.entries.length ++ [active.default.toByte]⟩))
        ∧ (InSequence s 0x25 c rest x → c.args = d.toByte :: extra → exec .mapDefault s =
          .next (executed s (put { shadow with default := d }) c rest x ⟨.done, .none, [shadow.default.toByte]⟩))))

/-- MAP_READ, executed: the 55 bytes of the entry, or NOT_FOUND; a pending commit does not matter (R11, R184, R207; log 18). While an offer
waits it is not taken (R48; log 21). -/
def Obligations.MapReadExecuted : Prop :=
  ∀ (s : State) (c : Command) (rest : List Cell) (x : Session) (bank : BankId) (tag : Tag) (extra : List Byte),
    InSequence s 0x26 c rest x → tag ≠ 0 → c.args = bank.toByte :: (beBytes 2 tag.toNat ++ extra) →
    (s.classifier.offered ≠ [] → exec .mapRead s = .next s)
      ∧ (s.classifier.offered = [] → (s.map.bank bank).find tag = none → exec .mapRead s = .next (executed s s c rest x ⟨.refused, .notFound, []⟩))
      ∧ ∀ e, s.classifier.offered = [] → (s.map.bank bank).find tag = some e →
        let k := e.counters
        let last : List Byte :=
          match e.track.mode with
          | .unseen => [0, 0, 0]
          | .tracking l => [1, 1, BitVec.ofNat 8 l.toNat]
          | .resync l => [2, 1, BitVec.ofNat 8 l.toNat]
        let result : List Byte := [bank.toByte, if bank = s.map.active then 1 else 0] ++ entryImage e.fields ++ last
          ++ [BitVec.ofNat 8 e.track.nextOut.toNat] ++ beBytes 4 k.matched.toNat ++ beBytes 4 k.queued.toNat
          ++ beBytes 4 k.dropDamaged.toNat ++ beBytes 4 k.dropCongestion.toNat ++ beBytes 4 k.dropPaused.toNat
          ++ beBytes 4 k.dropDuplicate.toNat ++ beBytes 4 k.gapCells.toNat ++ beBytes 4 k.discontinuities.toNat
        result.length = 55 ∧ exec .mapRead s = .next (executed s s c rest x ⟨.done, .none, result⟩)

/-- COMMIT and COMMIT_CANCEL, executed (R19, R25, R148, R149, R185, R186, R207; the timing code is free, log 14; each item that may be absent
has a presence byte of its own, log 12). -/
def Obligations.CommitAndCancelExecuted : Prop :=
  (∀ (s : State) (c : Command) (rest : List Cell) (x : Session) (due : Option Lt) (six extra : List Byte),
    InSequence s 0x27 c rest x → six.length = 6 →
    (match due with
     | none => c.args = 0 :: (six ++ extra)
     | some t => c.args = 1 :: (beBytes 6 t.toNat ++ extra)) →
    (∀ k q, s.agent.longOp = .inFlight k q → exec .commit s =
      .next (executed s s c rest x ⟨.refused, .busy, [1, k.toByte, q]⟩))
      ∧ (∀ k q o, s.agent.longOp = .ended k q o → exec .commit s =
        .next (executed s s c rest x ⟨.refused, .busy, [2, k.toByte, q]⟩))
      ∧ (∀ check tag, s.agent.longOp = .none → validate s = some (check, tag) → exec .commit s =
        .next (executed s s c rest x ⟨.refused, .conflict, [check.toByte] ++ beBytes 2 tag.toNat⟩))
      ∧ (s.agent.longOp = .none → validate s = none → (∀ t, due = some t → reached s.lt t = true) → exec .commit s =
        .next (executed s
          { swapped s with agent := { s.agent with longOp := .ended .commit c.seq .done } } c rest x
          ⟨.accepted, .none, [Config.commitTimingCode false, 0, 0, 0, 0, 0, 0, 0, 1, s.map.active.other.toByte]⟩))
      ∧ ∀ t, s.agent.longOp = .none → validate s = none → due = some t → reached s.lt t = false → exec .commit s =
        .next (executed s
          { s with
            map := { s.map with pendingCommit := some ⟨t, c.seq⟩ }
            agent := { s.agent with longOp := .inFlight .commit c.seq } } c rest x
          ⟨.accepted, .none, [Config.commitTimingCode true, 1] ++ beBytes 6 t.toNat ++ [0, 0]⟩))
    ∧ ∀ (s : State) (c : Command) (rest : List Cell) (x : Session), InSequence s 0x28 c rest x →
      (∀ p, s.map.pendingCommit = some p → s.agent.longOp = .inFlight .commit p.cmdSeq → exec .commitCancel s =
        .next (executed s
          { s with
            map := { s.map with pendingCommit := none }
            agent := { s.agent with longOp := .ended .commit p.cmdSeq .cancelled } } c rest x
          ⟨.done, .none, [p.cmdSeq] ++ beBytes 6 p.due.toNat⟩))
        ∧ (s.agent.longOp = .none → exec .commitCancel s =
          .next (executed s s c rest x ⟨.refused, .wrongState, [0, 0, 0]⟩))
        ∧ (∀ q, s.agent.longOp = .inFlight .pause q → exec .commitCancel s =
          .next (executed s s c rest x ⟨.refused, .wrongState, [1, 1, 0x51]⟩))
        ∧ (∀ k q o, s.agent.longOp = .ended k q o → exec .commitCancel s =
          .next (executed s s c rest x ⟨.refused, .wrongState, [2, 1, k.toByte]⟩))

/-! ## Capture commands -/

/-- CTX_ARM, CTX_DISARM, STORE_READ and STORE_RELEASE, executed (R80, R81, R93, R94, R187 to R189; log 12, log 13, log 32). -/
def Obligations.CaptureCommandsExecuted : Prop :=
  ∀ (s : State) (c : Command) (rest : List Cell) (x : Session) (i : Fin 8) (r : Fin 4) (type : Option Byte) (mode : VersionMode)
    (offset : Nat) (extra : List Byte),
    let y := s.capture.contexts[i]
    let filterBytes (t : Option Byte) : List Byte :=
      match t with
      | some b => [0, b]
      | none => [1, 0]
    let before : List Byte := match y.filter with
      | some f => [1] ++ filterBytes f.type ++ [1, f.mode.toByte]
      | none => [0, 0, 0, 0, 0]
    let armed (s : State) : State :=
      withContext s i { s.capture.contexts[i] with state := .armed, filter := some ⟨type, mode⟩, lastVersion := none }
    (InSequence s 0x31 c rest x → c.args = BitVec.ofNat 8 i.val :: (filterBytes type ++ mode.toByte :: extra) →
      (∀ p, y.state = .assembling p → exec .ctxArm s =
        .next (executed s (armed (abandoned s i .rearmed)) c rest x ⟨.done, .none, y.state.toByte :: before⟩))
      ∧ ((y.state = .idle ∨ y.state = .armed) → exec .ctxArm s =
        .next (executed s (armed s) c rest x ⟨.done, .none, y.state.toByte :: before⟩)))
      ∧ (InSequence s 0x32 c rest x → c.args = BitVec.ofNat 8 i.val :: extra → exec .ctxDisarm s =
        .next (executed s (withContext s i { y with state := .idle }) c rest x ⟨.done, .none, [y.state.toByte]⟩))
      ∧ (InSequence s 0x33 c rest x → c.args = BitVec.ofNat 8 r.val :: (beBytes 2 offset ++ extra) →
        (offset ≤ 2040 ∨ offset = 65535) → s.capture.store[r] = none → exec .storeRead s =
        .next (executed s s c rest x ⟨.refused, .notFound, []⟩))
      ∧ (∀ z, InSequence s 0x33 c rest x → c.args = BitVec.ofNat 8 r.val :: (beBytes 2 offset ++ extra) →
        offset ≤ 2040 → s.capture.store[r] = some z → exec .storeRead s =
        .next (executed s s c rest x ⟨.done, .none, (z.body.drop offset).take 104⟩))
      ∧ (∀ z (before after : List (Fin 4)), InSequence s 0x33 c rest x →
        c.args = BitVec.ofNat 8 r.val :: (beBytes 2 offset ++ extra) → offset = 65535 → s.capture.store[r] = some z →
        s.capture.filing = before ++ r :: after → r ∉ before → exec .storeRead s =
        .next (executed s s c rest x ⟨.done, .none, [BitVec.ofNat 8 z.context.val] ++ beBytes 2 z.source.toNat
          ++ [z.type, BitVec.ofNat 8 z.version.toNat] ++ beBytes 2 z.body.length ++ beBytes 6 z.firstArrival.toNat
          ++ beBytes 6 z.completion.toNat ++ [BitVec.ofNat 8 (before.length + 1), if z.noticeOwed then 1 else 0]⟩))
      ∧ (InSequence s 0x34 c rest x → c.args = BitVec.ofNat 8 r.val :: extra → s.capture.store[r] = none →
        exec .storeRelease s = .next (executed s s c rest x ⟨.refused, .notFound, []⟩))
      ∧ (∀ z, InSequence s 0x34 c rest x → c.args = BitVec.ofNat 8 r.val :: extra → s.capture.store[r] = some z →
        exec .storeRelease s = .next (executed s
          { s with capture := { s.capture with
            store := setAt s.capture.store r none, filing := s.capture.filing.filter fun q => q != r } } c rest x
          ⟨.done, .none, [BitVec.ofNat 8 z.context.val] ++ beBytes 2 z.source.toNat ++ beBytes 6 z.completion.toNat⟩))

/-! ## Carousel commands -/

/-- SLOT_DEFINE, SLOT_WRITE and SLOT_PUBLISH, executed; a write changes the written bytes of the pending image and no other (R101 to R103, R190
to R192). The next due LT of a slot defined from EMPTY is the model's 0 (log 31). -/
def Obligations.SlotLoadingExecuted : Prop :=
  ∀ (s : State) (c : Command) (rest : List Cell) (x : Session) (i : Fin 16) (extra : List Byte),
    (∀ (tag : Tag) (type : Byte) (version : Version) (interval : Nat), InSequence s 0x41 c rest x → tag ≠ 0 → 10 ≤ interval →
      interval ≤ 10000 →
      c.args = BitVec.ofNat 8 i.val :: (beBytes 2 tag.toNat ++ type :: BitVec.ofNat 8 version.toNat :: (beBytes 2 interval ++ extra)) →
      (s.carousel.slots[i] = none → exec .slotDefine s = .next (executed s
          (withSlot s i (some ⟨.defined, tag, type, version, interval, none, [], 0, false, false, 0, 0, 0, 0⟩)) c rest x
          ⟨.done, .none, [0, 1]⟩))
      ∧ ∀ d, s.carousel.slots[i] = some d →
        (d.run = .defined → exec .slotDefine s = .next (executed s
          (withSlot s i (some { d with
            outTag := tag, type := type, version := version, interval := interval
            outSeq := if d.outTag = tag then d.outSeq else 0 })) c rest x
          ⟨.done, .none, [1, if d.outTag = tag then 0 else 1]⟩))
        ∧ (d.run = .running → exec .slotDefine s = .next (executed s s c rest x ⟨.refused, .wrongState, [2]⟩))
        ∧ (d.run = .stopping → exec .slotDefine s = .next (executed s s c rest x ⟨.refused, .wrongState, [3]⟩)))
      ∧ (∀ (offset : Nat) (bytes : List Byte), InSequence s 0x42 c rest x → offset ≤ 2039 → 1 ≤ bytes.length → bytes.length ≤ 100 →
        c.args = BitVec.ofNat 8 i.val :: (beBytes 2 offset ++ BitVec.ofNat 8 bytes.length :: (bytes ++ extra)) →
        (2040 < offset + bytes.length → exec .slotWrite s = .next (executed s s c rest x ⟨.refused, .badArgument, [3]⟩))
        ∧ (offset + bytes.length ≤ 2040 → s.carousel.slots[i] = none → exec .slotWrite s =
          .next (executed s s c rest x ⟨.refused, .wrongState, [0]⟩))
        ∧ ∀ d, offset + bytes.length ≤ 2040 → s.carousel.slots[i] = some d → Memory.wf d.pendingBytes = true →
          ∃ m : Memory, exec .slotWrite s = .next (executed s
              (withSlot s i (some { d with pendingBytes := m, published := false })) c rest x
              ⟨.done, .none, [slotStateByte (some d), if d.published then 1 else 0]⟩)
            ∧ Memory.wf m = true
            ∧ ∀ a, Memory.read m a = if offset ≤ a ∧ a < offset + bytes.length then bytes.getD (a - offset) 0
                else Memory.read d.pendingBytes a)
      ∧ ∀ (length : Nat) (bump : Bool), InSequence s 0x43 c rest x → length ≤ 2040 →
        c.args = BitVec.ofNat 8 i.val :: (beBytes 2 length ++ (if bump then 1 else 0) :: extra) →
        (s.carousel.slots[i] = none → exec .slotPublish s = .next (executed s s c rest x ⟨.refused, .wrongState, [0]⟩))
        ∧ ∀ d, s.carousel.slots[i] = some d → exec .slotPublish s = .next (executed s
            (withSlot s i (some { d with pendingLen := length, published := true, bump := bump })) c rest x
            ⟨.done, .none, [if d.published then 1 else 0, BitVec.ofNat 8 d.version.toNat]⟩)

/-- SLOT_START, executed, in R104's order; a slot that starts is due at once (R104, R107 to R110, R193). -/
def Obligations.SlotStartExecuted : Prop :=
  ∀ (s : State) (c : Command) (rest : List Cell) (x : Session) (i : Fin 16) (extra : List Byte),
    InSequence s 0x44 c rest x → c.args = BitVec.ofNat 8 i.val :: extra →
    (s.carousel.slots[i] = none → exec .slotStart s = .next (executed s s c rest x ⟨.refused, .wrongState, [0, 1]⟩))
      ∧ ∀ d, s.carousel.slots[i] = some d →
        (d.run = .stopping → exec .slotStart s = .next (executed s s c rest x ⟨.refused, .wrongState, [3, 1]⟩))
        ∧ (d.run = .running → exec .slotStart s = .next (executed s s c rest x ⟨.done, .none, [2, 0, 0, 0, 0, 0, 0, 0]⟩))
        ∧ (d.run = .defined → ¬ HasImage d →
          exec .slotStart s = .next (executed s s c rest x ⟨.refused, .wrongState, [1, 2]⟩))
        ∧ (d.run = .defined → HasImage d → (outputTags s).Nodup →
          (∀ e ∈ s.map.activeBank.entries, e.fields.forwards = true → e.fields.effectiveTag = d.outTag → exec .slotStart s =
            .next (executed s s c rest x ⟨.refused, .conflict, [6] ++ beBytes 2 e.fields.inputTag.toNat⟩))
          ∧ (d.outTag = s.agent.replyTag → exec .slotStart s =
            .next (executed s s c rest x ⟨.refused, .conflict, [2] ++ beBytes 2 d.outTag.toNat⟩))
          ∧ (∀ (j : Fin 16) (y : SlotData), s.carousel.slots[j] = some y → y.run.assigns = true → y.outTag = d.outTag →
            exec .slotStart s = .next (executed s s c rest x ⟨.refused, .conflict, [7, 0, BitVec.ofNat 8 j.val]⟩)))
        ∧ (d.run = .defined → HasImage d → d.outTag ∉ outputTags s →
          let d' : SlotData := { d with run := .running, nextDue := s.lt }
          let a : Answer := ⟨.done, .none, [1, 1] ++ beBytes 6 s.lt.toNat⟩
          (s.carousel.emission = none → s.carousel.due = [] → exec .slotStart s =
            .next (executed s (emissionStarted s i d' 1) c rest x a))
          ∧ ∀ e, s.carousel.emission = some e → i ∉ s.carousel.due → ∃ due : List (Fin 16), due.Perm (i :: s.carousel.due)
            ∧ exec .slotStart s = .next (executed s
              { withSlot s i (some d') with
                carousel := { (withSlot s i (some d')).carousel with due := due } } c rest x a))

/-- SLOT_STOP, SLOT_CLEAR and SLOT_QUERY, executed (R105, R106, R115, R194, R195; log 12). -/
def Obligations.SlotEndingExecuted : Prop :=
  ∀ (s : State) (c : Command) (rest : List Cell) (x : Session) (i : Fin 16) (extra : List Byte),
    c.args = BitVec.ofNat 8 i.val :: extra →
    (s.carousel.slots[i] = none →
      (InSequence s 0x45 c rest x → exec .slotStop s = .next (executed s s c rest x ⟨.refused, .wrongState, [0]⟩))
      ∧ (InSequence s 0x46 c rest x → exec .slotClear s = .next (executed s s c rest x ⟨.done, .none, [0]⟩))
      ∧ (InSequence s 0x47 c rest x → (∀ e, s.carousel.emission = some e → e.slot ≠ i) → exec .slotQuery s =
        .next (executed s s c rest x ⟨.done, .none, List.replicate 52 0⟩)))
      ∧ ∀ d, s.carousel.slots[i] = some d →
        let stopped (run : SlotRun) : State :=
          { withSlot s i (some { d with run := run }) with
            carousel := { (withSlot s i (some { d with run := run })).carousel with
              due := s.carousel.due.filter fun j => j != i } }
        (InSequence s 0x45 c rest x →
          (d.run = .running → (∃ e, s.carousel.emission = some e ∧ e.slot = i) → exec .slotStop s =
            .next (executed s (stopped .stopping) c rest x ⟨.done, .none, [2, 3]⟩))
          ∧ (d.run = .running → (∀ e, s.carousel.emission = some e → e.slot ≠ i) → exec .slotStop s =
            .next (executed s (stopped .defined) c rest x ⟨.done, .none, [2, 1]⟩))
          ∧ (d.run = .stopping → exec .slotStop s = .next (executed s s c rest x ⟨.done, .none, [3, 3]⟩))
          ∧ (d.run = .defined → exec .slotStop s = .next (executed s s c rest x ⟨.done, .none, [1, 1]⟩)))
        ∧ (InSequence s 0x46 c rest x →
          (d.run = .defined → exec .slotClear s = .next (executed s (withSlot s i none) c rest x ⟨.done, .none, [1]⟩))
          ∧ (d.run = .running → exec .slotClear s = .next (executed s s c rest x ⟨.refused, .wrongState, [2]⟩))
          ∧ (d.run = .stopping → exec .slotClear s = .next (executed s s c rest x ⟨.refused, .wrongState, [3]⟩)))
        ∧ (InSequence s 0x47 c rest x →
          let dueBytes : List Byte :=
            if d.run = .running then [1] ++ beBytes 6 d.nextDue.toNat ++ [1, if i ∈ s.carousel.due then 1 else 0]
            else List.replicate 9 0
          let progress (e : Option Emission) : List Byte :=
            match e with
            | some e => [1] ++ beBytes 4 e.placed ++ [1] ++ beBytes 4 (cellCount e.message.length)
            | none => List.replicate 10 0
          exec .slotQuery s = .next (executed s s c rest x ⟨.done, .none,
            [slotStateByte (some d), 1] ++ beBytes 2 d.outTag.toNat ++ [1, d.type, 1, BitVec.ofNat 8 d.version.toNat, 1]
              ++ beBytes 2 d.interval
              ++ (match d.current with
                  | some body => [1] ++ beBytes 2 body.length
                  | none => [0, 0, 0])
              ++ [1] ++ beBytes 2 d.pendingLen
              ++ [1, if d.published then 1 else 0, 1, if d.bump then 1 else 0, 1, BitVec.ofNat 8 d.outSeq.toNat]
              ++ dueBytes ++ progress (s.carousel.emission.filter fun e => e.slot = i)
              ++ [1] ++ beBytes 4 d.emissions.toNat ++ [1] ++ beBytes 4 d.lateEvents.toNat⟩))

/-! ## Forwarding, conditions, counters, configuration, tags, restart -/

/-- PAUSE and RESUME, executed (R52, R54, R55, R148, R149, R196). -/
def Obligations.PauseAndResumeExecuted : Prop :=
  ∀ (s : State) (c : Command) (rest : List Cell) (x : Session),
    let admitted (a : Admission) : State := { s with classifier := { s.classifier with admission := a } }
    let depth := beBytes 2 s.queues.media.length
    let draining : State :=
      { admitted .pausing with agent := { s.agent with longOp := .inFlight .pause c.seq } }
    (InSequence s 0x51 c rest x →
      (∀ k q, s.agent.longOp = .inFlight k q → exec .pause s =
        .next (executed s s c rest x ⟨.refused, .busy, [1, k.toByte, q]⟩))
      ∧ (∀ k q o, s.agent.longOp = .ended k q o → exec .pause s =
        .next (executed s s c rest x ⟨.refused, .busy, [2, k.toByte, q]⟩))
      ∧ (s.agent.longOp = .none →
        (s.classifier.admission = .forwarding → s.queues.media = [] → exec .pause s =
          .next (executed s (admitted .paused) c rest x ⟨.done, .none, [2] ++ depth⟩))
        ∧ (s.classifier.admission = .forwarding → s.queues.media ≠ [] → exec .pause s =
          .next (executed s draining c rest x ⟨.accepted, .none, [1] ++ depth⟩))
        ∧ (s.classifier.admission = .pausing → exec .pause s =
          .next (executed s draining c rest x ⟨.accepted, .none, [1] ++ depth⟩))
        ∧ (s.classifier.admission = .paused → exec .pause s = .next (executed s s c rest x ⟨.done, .none, [2] ++ depth⟩))))
      ∧ (InSequence s 0x52 c rest x →
        (s.classifier.admission = .forwarding → exec .resume s = .next (executed s s c rest x ⟨.done, .none, [0, 0]⟩))
        ∧ (s.classifier.admission = .paused → exec .resume s =
          .next (executed s (admitted .forwarding) c rest x ⟨.done, .none, [2, 0]⟩))
        ∧ (∀ q, s.classifier.admission = .pausing → s.agent.longOp = .inFlight .pause q → exec .resume s =
          .next (executed s
            { admitted .forwarding with agent := { s.agent with longOp := .ended .pause q .aborted } } c rest x
            ⟨.done, .none, [1, 1]⟩))
        ∧ (s.classifier.admission = .pausing → (∀ q, s.agent.longOp ≠ .inFlight .pause q) → exec .resume s =
          .next (executed s (admitted .forwarding) c rest x ⟨.done, .none, [1, 0]⟩)))

/-- COND_READ and COND_ACK, executed (R163, R166, R197; log 12, log 18). -/
def Obligations.ConditionCommandsExecuted : Prop :=
  ∀ (s : State) (c : Command) (rest : List Cell) (x : Session),
    (InSequence s 0x61 c rest x →
      let image (k : CondKind) : List Byte :=
        let e := s.agent.cond k
        [condCode k, e.state.toByte,
          match e.noticeOwed, e.firstLt with
          | false, none => 0
          | true, none => 1
          | false, some _ => 2
          | true, some _ => 3]
          ++ beBytes 4 e.count.toNat ++ (match e.firstLt with
            | some t => beBytes 6 t.toNat
            | none => [0, 0, 0, 0, 0, 0])
      let result : List Byte := image .lineUnlocked ++ image .headerErrors ++ image .mediaCongestion ++ image .staleDrops
        ++ image .captureLoss ++ image .carouselLate ++ image .commandDiscard ++ image .sequenceGaps
      result.length = 104 ∧ exec .condRead s = .next (executed s s c rest x ⟨.done, .none, result⟩))
      ∧ ∀ (k : CondKind) (extra : List Byte), InSequence s 0x62 c rest x → c.args = condCode k :: extra →
        let e := s.agent.cond k
        let result : List Byte := [e.state.toByte] ++ beBytes 4 e.count.toNat ++ (match e.firstLt with
          | some t => [1] ++ beBytes 6 t.toNat
          | none => [0, 0, 0, 0, 0, 0, 0])
        let left (e' : CondEntry) : Host.Outcome State Fault Refusal :=
          .next (executed s { s with agent := s.agent.setCond k e' } c rest x ⟨.done, .none, result⟩)
        (e.state = .raised → k = .lineUnlocked → exec .condAck s = left { e with state := .acknowledged, noticeOwed := false })
          ∧ (e.state = .raised → k ≠ .lineUnlocked → exec .condAck s = left { e with state := .clear, noticeOwed := false })
          ∧ (e.state ≠ .raised → exec .condAck s = left e)

/-- COUNT_READ, executed, group by group, in the order of each owner's rule; the entry group is refused. A group read whole ignores the part,
and where the payload ends before it the byte echoed is free (R4, R62, R95, R116, R129, R160, R169, R198; log 12, log 16, log 33). -/
def Obligations.CountReadExecuted : Prop :=
  ∀ (s : State) (c : Command) (rest : List Cell) (x : Session) (part : Byte) (more extra : List Byte), InSequence s 0x63 c rest x →
    let w (k : Counter) : List Byte := beBytes 4 k.toNat
    let done (result : List Byte) : Host.Outcome State Fault Refusal := .next (executed s s c rest x ⟨.done, .none, result⟩)
    let echo : Byte := more.headD Config.missingPart
    let bank (b : Bank) : List Byte := w b.counters.unmappedDropped ++ w b.counters.unmappedForwarded ++ w b.counters.collisionDrops
    let context (i : Fin 8) : List Byte :=
      let y := s.capture.contexts[i]
      w y.counters.delivered ++ w y.counters.abandoned ++ w y.counters.overruns ++ w y.counters.repeats ++ [y.state.toByte]
        ++ (match y.lastLoss with
            | some (why, t) => why.toByte :: beBytes 6 t.toNat
            | none => [0, 0, 0, 0, 0, 0, 0])
    let slot (i : Fin 16) : List Byte :=
      match s.carousel.slots[i] with
      | none => List.replicate 11 0
      | some d => [slotStateByte (some d), 1] ++ w d.emissions ++ [1] ++ w d.lateEvents
    let i := s.line.counters
    let o := s.sched.counters
    let a := s.agent.counters
    (c.args = 1 :: more → exec .countRead s = done ([1, echo] ++ w i.cellsDelivered ++ w i.fillerReceived
        ++ w i.headerErrors ++ w i.syncLosses ++ w i.damagedCells))
      ∧ (c.args = 2 :: more → exec .countRead s = done ([2, echo] ++ w o.managementSent ++ w o.tableSent ++ w o.mediaSent
        ++ w o.fillerSent ++ w o.staleDropped ++ w o.staleSent ++ w o.shortStamp))
      ∧ (c.args = 3 :: more → exec .countRead s = done ([3, echo] ++ bank s.map.bankA))
      ∧ (c.args = 4 :: more → exec .countRead s = done ([4, echo] ++ bank s.map.bankB))
      ∧ (c.args = 5 :: more → exec .countRead s =
        .next (executed s s c rest x ⟨.refused, .badArgument, [1]⟩))
      ∧ (c.args = 6 :: 0 :: extra → exec .countRead s =
        done ([6, 0] ++ (context 0 ++ context 1 ++ context 2 ++ context 3)))
      ∧ (c.args = 6 :: 1 :: extra → exec .countRead s =
        done ([6, 1] ++ (context 4 ++ context 5 ++ context 6 ++ context 7)))
      ∧ (c.args = 7 :: 0 :: extra → exec .countRead s =
        done ([7, 0] ++ (slot 0 ++ slot 1 ++ slot 2 ++ slot 3 ++ slot 4 ++ slot 5 ++ slot 6 ++ slot 7)))
      ∧ (c.args = 7 :: 1 :: extra → exec .countRead s =
        done ([7, 1] ++ (slot 8 ++ slot 9 ++ slot 10 ++ slot 11 ++ slot 12 ++ slot 13 ++ slot 14 ++ slot 15)))
      ∧ ((c.args = 6 :: part :: extra ∨ c.args = 7 :: part :: extra) → 2 ≤ part.toNat → exec .countRead s =
        .next (executed s s c rest x ⟨.refused, .badArgument, [2]⟩))
      ∧ (c.args = 8 :: more → exec .countRead s =
        done ([8, echo] ++ w a.executed ++ w a.refused ++ w a.discarded ++ w a.repeats))

/-- COUNT_CLEAR, executed, group by group; clearing the agent group leaves commands_executed at 1 (R160, R170, R199). For an entry it is not
taken while an offer waits (R48; log 21). -/
def Obligations.CountClearExecuted : Prop :=
  ∀ (s : State) (c : Command) (rest : List Cell) (x : Session) (extra : List Byte), InSequence s 0x64 c rest x →
    let done (u : State) : Host.Outcome State Fault Refusal := .next (executed s u c rest x ⟨.done, .none, []⟩)
    (c.args = 1 :: extra → exec .countClear s = done { s with line := { s.line with counters := ⟨0, 0, 0, 0, 0⟩ } })
      ∧ (c.args = 2 :: extra → exec .countClear s =
        done { s with sched := { s.sched with counters := ⟨0, 0, 0, 0, 0, 0, 0⟩ } })
      ∧ (c.args = 3 :: extra → exec .countClear s = done (withBank s .a { s.map.bankA with counters := ⟨0, 0, 0⟩ }))
      ∧ (c.args = 4 :: extra → exec .countClear s = done (withBank s .b { s.map.bankB with counters := ⟨0, 0, 0⟩ }))
      ∧ (∀ (bank : BankId) (tag : Tag), tag ≠ 0 → c.args = 5 :: bank.toByte :: (beBytes 2 tag.toNat ++ extra) →
        (s.classifier.offered ≠ [] → exec .countClear s = .next s)
        ∧ (s.classifier.offered = [] → (s.map.bank bank).find tag = none → exec .countClear s =
          .next (executed s s c rest x ⟨.refused, .notFound, []⟩))
        ∧ (s.classifier.offered = [] → ((s.map.bank bank).find tag).isSome = true → exec .countClear s =
          done (withBank s bank ((s.map.bank bank).modify tag fun y => { y with counters := ⟨0, 0, 0, 0, 0, 0, 0, 0⟩ }))))
      ∧ (c.args = 6 :: extra → ∃ contexts : Vector Context 8,
        exec .countClear s = done { s with capture := { s.capture with contexts := contexts } }
          ∧ ∀ i : Fin 8, contexts[i] = { s.capture.contexts[i] with counters := ⟨0, 0, 0, 0⟩, lastLoss := none })
      ∧ (c.args = 7 :: extra → ∃ slots : Vector (Option SlotData) 16,
        exec .countClear s = done { s with carousel := { s.carousel with slots := slots } }
          ∧ ∀ i : Fin 16, slots[i] = s.carousel.slots[i].map fun d => { d with emissions := 0, lateEvents := 0 })
      ∧ (c.args = 8 :: extra → ∃ t, exec .countClear s = .next t ∧ t.agent.counters = ⟨1, 0, 0, 0⟩
        ∧ t = executed s { s with agent := { s.agent with counters := ⟨0, 0, 0, 0⟩ } } c rest x ⟨.done, .none, []⟩)

/-- CONFIG_SET and CONFIG_GET, executed, item by item (R58, R171, R172, R200). The layout of CONFIG_GET's range is the model's (log 30). -/
def Obligations.ConfigurationExecuted : Prop :=
  ∀ (s : State) (c : Command) (rest : List Cell) (x : Session) (v : Nat) (extra : List Byte),
    let g := s.agent.settings
    (InSequence s 0x71 c rest x →
      let set (item : Byte) (lo hi before : Nat) (u : State) : Prop :=
        v < 2 ^ 32 → c.args = item :: (beBytes 4 v ++ extra) →
          (lo ≤ v ∧ v ≤ hi → exec .configSet s = .next (executed s u c rest x ⟨.done, .none, beBytes 4 before⟩))
          ∧ (v < lo ∨ hi < v → exec .configSet s = .next (executed s s c rest x ⟨.refused, .badArgument, [2]⟩))
      set 1 250 2500000 g.staleLimit { s with agent := { s.agent with settings := { g with staleLimit := v } } }
        ∧ set 2 2 64 g.tableShare { s with
            agent := { s.agent with settings := { g with tableShare := v } }
            sched := { s.sched with shareCount := min s.sched.shareCount v } }
        ∧ set 3 1000 60000 g.sessionTimeout { s with agent := { s.agent with settings := { g with sessionTimeout := v } } }
        ∧ set 4 10 5000 g.assemblyTimeout { s with agent := { s.agent with settings := { g with assemblyTimeout := v } } })
      ∧ (InSequence s 0x72 c rest x →
        let get (item : Byte) (value lo hi default : Nat) : Prop :=
          c.args = item :: extra → exec .configGet s = .next (executed s s c rest x
            ⟨.done, .none, beBytes 4 value ++ beBytes 4 lo ++ beBytes 4 hi ++ beBytes 4 default⟩)
        get 1 g.staleLimit 250 2500000 10000 ∧ get 2 g.tableShare 2 64 8 ∧ get 3 g.sessionTimeout 1000 60000 10000
          ∧ get 4 g.assemblyTimeout 10 5000 500)

/-- TAGS_SET, executed: the checks in R155's order, else both tags, the reply going out under the old one; and RESTART, executed: the marked
reply, then RESTARTING with the queued commands discarded (R155 to R157, R201, R202). -/
def Obligations.TagsSetAndRestartExecuted : Prop :=
  (∀ (s : State) (c : Command) (rest : List Cell) (x : Session) (cmd reply : Tag) (extra : List Byte),
    InSequence s 0x73 c rest x → c.args = beBytes 2 cmd.toNat ++ (beBytes 2 reply.toNat ++ extra) →
    let conflict (bytes : List Byte) : Host.Outcome State Fault Refusal :=
      .next (executed s s c rest x ⟨.refused, .conflict, bytes⟩)
    ((cmd = reply ∨ cmd = 0 ∨ reply = 0) → exec .tagsSet s = conflict [8, 0, 0])
      ∧ (cmd ≠ reply → cmd ≠ 0 → reply ≠ 0 →
        (∀ e, s.map.activeBank.find cmd = some e → exec .tagsSet s = conflict ([4] ++ beBytes 2 cmd.toNat))
        ∧ (s.map.activeBank.find cmd = none → (outputTags s).Nodup →
          (∀ e ∈ s.map.activeBank.entries, e.fields.forwards = true → e.fields.effectiveTag = reply →
            exec .tagsSet s = conflict ([6] ++ beBytes 2 e.fields.inputTag.toNat))
          ∧ (∀ (j : Fin 16) (y : SlotData), s.carousel.slots[j] = some y → y.run.assigns = true → y.outTag = reply →
            exec .tagsSet s = conflict [7, 0, BitVec.ofNat 8 j.val]))
        ∧ (s.map.activeBank.find cmd = none →
          (∀ e ∈ s.map.activeBank.entries, e.fields.forwards = true → e.fields.effectiveTag ≠ reply) →
          (∀ (j : Fin 16) (y : SlotData), s.carousel.slots[j] = some y → y.run.assigns = true → y.outTag ≠ reply) →
          exec .tagsSet s = .next (executed s { s with agent := { s.agent with cmdTag := cmd, replyTag := reply } } c rest x
            ⟨.done, .none, beBytes 2 s.agent.cmdTag.toNat ++ beBytes 2 s.agent.replyTag.toNat⟩))))
    ∧ ∀ (s : State) (c : Command) (rest : List Cell) (x : Session) (kind : RestartKind) (extra : List Byte),
        InSequence s 0x74 c rest x → c.args = kind.toByte :: extra →
        let t := executed s s c rest x ⟨.done, .none, [kind.toByte]⟩ (some kind)
        exec .restart s = .next { t with agent := { t.agent with
          mode := .restarting, cmdQueue := []
          counters := { t.agent.counters with discarded := Counter.add t.agent.counters.discarded rest.length } } }

/-! ## Invariants -/

/-- Every invariant holds after a hard reset. -/
def Obligations.InvariantsHoldAtReset : Prop :=
  QueuesBounded State.reset ∧ TagLaws State.reset ∧ CaptureSound State.reset ∧ CarouselSound State.reset
    ∧ DelineationSound State.reset ∧ OperationsSound State.reset ∧ ConditionsSound State.reset ∧ SettingsLegal State.reset
    ∧ RestartSound State.reset ∧ OutputSound State.reset

/-- Every step keeps the bounds of the four queues (R45, R135). -/
def Obligations.StepKeepsQueuesBounded : Prop :=
  ∀ s t : State, QueuesBounded s → step s = .next t → QueuesBounded t

/-- Every step keeps the laws of R9 and R10, with both banks legal (R1, R2, R9, R10). -/
def Obligations.StepKeepsTagLaws : Prop :=
  ∀ s t : State, TagLaws s → step s = .next t → TagLaws t

/-- Every step keeps the bounds of the capture contexts and store (R83, R90, R91). -/
def Obligations.StepKeepsCaptureSound : Prop :=
  ∀ s t : State, CaptureSound s → step s = .next t → CaptureSound t

/-- Every step keeps the carousel sound, its pending images in canonical form (R99, R102, R107, R108). -/
def Obligations.StepKeepsCarouselSound : Prop :=
  ∀ s t : State, CarouselSound s → step s = .next t → CarouselSound t

/-- Every step keeps the long-operation record, the pending commit, the drain and the owed notices in agreement (R12, R53, R148, R154). -/
def Obligations.StepKeepsOperationsSound : Prop :=
  ∀ s t : State, OperationsSound s → step s = .next t → OperationsSound t

/-- Every step keeps the delineation counts, the conditions' owed flags, the configuration ranges, and the restart mark, each on its own
(R58, R121 to R126, R157, R163, R165, R171). -/
def Obligations.StepKeepsSmallRecords : Prop :=
  ∀ s t : State, step s = .next t →
    (DelineationSound s → DelineationSound t) ∧ (ConditionsSound s → ConditionsSound t) ∧ (SettingsLegal s → SettingsLegal t)
      ∧ (RestartSound s → RestartSound t)

/-- Every output slot carries 128 bytes that begin with a valid header: kept by every step, with every held cell whole and every reply within
its cell (R56, R137, R203). -/
def Obligations.StepKeepsOutputSound : Prop :=
  ∀ s t : State, OutputSound s → step s = .next t → OutputSound t
end

