-- ==== Sys2Proof/Laws/State.lean ====
section
/-! SUPPORT. One lemma per field of State per named update of State, each true by unfolding. -/

namespace Sys2Proof.Machine

/-! ### State.report -/

@[simp] theorem State.report_resetLow (s : State) (r : Report) : (s.report r).resetLow = s.resetLow := rfl
@[simp] theorem State.report_lt (s : State) (r : Report) : (s.report r).lt = s.lt := rfl
@[simp] theorem State.report_line (s : State) (r : Report) : (s.report r).line = s.line := rfl
@[simp] theorem State.report_classifier (s : State) (r : Report) : (s.report r).classifier = s.classifier := rfl
@[simp] theorem State.report_map (s : State) (r : Report) : (s.report r).map = s.map := rfl
@[simp] theorem State.report_capture (s : State) (r : Report) : (s.report r).capture = s.capture := rfl
@[simp] theorem State.report_carousel (s : State) (r : Report) : (s.report r).carousel = s.carousel := rfl
@[simp] theorem State.report_queues (s : State) (r : Report) : (s.report r).queues = s.queues := rfl
@[simp] theorem State.report_sched (s : State) (r : Report) : (s.report r).sched = s.sched := rfl
@[simp] theorem State.report_agent (s : State) (r : Report) : (s.report r).agent = s.agent := rfl
@[simp] theorem State.report_reports (s : State) (r : Report) : (s.report r).reports =
    s.reports ++ [r] := rfl
@[simp] theorem State.report_pending (s : State) (r : Report) : (s.report r).pending = s.pending := rfl

/-! ### State.setBank -/

@[simp] theorem State.setBank_resetLow (s : State) (i : BankId) (b : Bank) : (s.setBank i b).resetLow = s.resetLow := rfl
@[simp] theorem State.setBank_lt (s : State) (i : BankId) (b : Bank) : (s.setBank i b).lt = s.lt := rfl
@[simp] theorem State.setBank_line (s : State) (i : BankId) (b : Bank) : (s.setBank i b).line = s.line := rfl
@[simp] theorem State.setBank_classifier (s : State) (i : BankId) (b : Bank) : (s.setBank i b).classifier = s.classifier := rfl
@[simp] theorem State.setBank_map (s : State) (i : BankId) (b : Bank) : (s.setBank i b).map =
    s.map.setBank i b := rfl
@[simp] theorem State.setBank_capture (s : State) (i : BankId) (b : Bank) : (s.setBank i b).capture = s.capture := rfl
@[simp] theorem State.setBank_carousel (s : State) (i : BankId) (b : Bank) : (s.setBank i b).carousel = s.carousel := rfl
@[simp] theorem State.setBank_queues (s : State) (i : BankId) (b : Bank) : (s.setBank i b).queues = s.queues := rfl
@[simp] theorem State.setBank_sched (s : State) (i : BankId) (b : Bank) : (s.setBank i b).sched = s.sched := rfl
@[simp] theorem State.setBank_agent (s : State) (i : BankId) (b : Bank) : (s.setBank i b).agent = s.agent := rfl
@[simp] theorem State.setBank_reports (s : State) (i : BankId) (b : Bank) : (s.setBank i b).reports = s.reports := rfl
@[simp] theorem State.setBank_pending (s : State) (i : BankId) (b : Bank) : (s.setBank i b).pending = s.pending := rfl

/-! ### State.setContext -/

@[simp] theorem State.setContext_resetLow (s : State) (i : Fin 8) (c : Context) : (s.setContext i c).resetLow = s.resetLow := rfl
@[simp] theorem State.setContext_lt (s : State) (i : Fin 8) (c : Context) : (s.setContext i c).lt = s.lt := rfl
@[simp] theorem State.setContext_line (s : State) (i : Fin 8) (c : Context) : (s.setContext i c).line = s.line := rfl
@[simp] theorem State.setContext_classifier (s : State) (i : Fin 8) (c : Context) : (s.setContext i c).classifier = s.classifier := rfl
@[simp] theorem State.setContext_map (s : State) (i : Fin 8) (c : Context) : (s.setContext i c).map = s.map := rfl
@[simp] theorem State.setContext_capture (s : State) (i : Fin 8) (c : Context) : (s.setContext i c).capture =
    { s.capture with contexts := setAt s.capture.contexts i c } := rfl
@[simp] theorem State.setContext_carousel (s : State) (i : Fin 8) (c : Context) : (s.setContext i c).carousel = s.carousel := rfl
@[simp] theorem State.setContext_queues (s : State) (i : Fin 8) (c : Context) : (s.setContext i c).queues = s.queues := rfl
@[simp] theorem State.setContext_sched (s : State) (i : Fin 8) (c : Context) : (s.setContext i c).sched = s.sched := rfl
@[simp] theorem State.setContext_agent (s : State) (i : Fin 8) (c : Context) : (s.setContext i c).agent = s.agent := rfl
@[simp] theorem State.setContext_reports (s : State) (i : Fin 8) (c : Context) : (s.setContext i c).reports = s.reports := rfl
@[simp] theorem State.setContext_pending (s : State) (i : Fin 8) (c : Context) : (s.setContext i c).pending = s.pending := rfl

/-! ### State.setSlot -/

@[simp] theorem State.setSlot_resetLow (s : State) (i : Fin 16) (d : Option SlotData) : (s.setSlot i d).resetLow = s.resetLow := rfl
@[simp] theorem State.setSlot_lt (s : State) (i : Fin 16) (d : Option SlotData) : (s.setSlot i d).lt = s.lt := rfl
@[simp] theorem State.setSlot_line (s : State) (i : Fin 16) (d : Option SlotData) : (s.setSlot i d).line = s.line := rfl
@[simp] theorem State.setSlot_classifier (s : State) (i : Fin 16) (d : Option SlotData) : (s.setSlot i d).classifier = s.classifier := rfl
@[simp] theorem State.setSlot_map (s : State) (i : Fin 16) (d : Option SlotData) : (s.setSlot i d).map = s.map := rfl
@[simp] theorem State.setSlot_capture (s : State) (i : Fin 16) (d : Option SlotData) : (s.setSlot i d).capture = s.capture := rfl
@[simp] theorem State.setSlot_carousel (s : State) (i : Fin 16) (d : Option SlotData) : (s.setSlot i d).carousel =
    { s.carousel with slots := setAt s.carousel.slots i d } := rfl
@[simp] theorem State.setSlot_queues (s : State) (i : Fin 16) (d : Option SlotData) : (s.setSlot i d).queues = s.queues := rfl
@[simp] theorem State.setSlot_sched (s : State) (i : Fin 16) (d : Option SlotData) : (s.setSlot i d).sched = s.sched := rfl
@[simp] theorem State.setSlot_agent (s : State) (i : Fin 16) (d : Option SlotData) : (s.setSlot i d).agent = s.agent := rfl
@[simp] theorem State.setSlot_reports (s : State) (i : Fin 16) (d : Option SlotData) : (s.setSlot i d).reports = s.reports := rfl
@[simp] theorem State.setSlot_pending (s : State) (i : Fin 16) (d : Option SlotData) : (s.setSlot i d).pending = s.pending := rfl

/-! ### State.setAdmission -/

@[simp] theorem State.setAdmission_resetLow (s : State) (a : Admission) : (s.setAdmission a).resetLow = s.resetLow := rfl
@[simp] theorem State.setAdmission_lt (s : State) (a : Admission) : (s.setAdmission a).lt = s.lt := rfl
@[simp] theorem State.setAdmission_line (s : State) (a : Admission) : (s.setAdmission a).line = s.line := rfl
@[simp] theorem State.setAdmission_classifier (s : State) (a : Admission) : (s.setAdmission a).classifier =
    { s.classifier with admission := a } := rfl
@[simp] theorem State.setAdmission_map (s : State) (a : Admission) : (s.setAdmission a).map = s.map := rfl
@[simp] theorem State.setAdmission_capture (s : State) (a : Admission) : (s.setAdmission a).capture = s.capture := rfl
@[simp] theorem State.setAdmission_carousel (s : State) (a : Admission) : (s.setAdmission a).carousel = s.carousel := rfl
@[simp] theorem State.setAdmission_queues (s : State) (a : Admission) : (s.setAdmission a).queues = s.queues := rfl
@[simp] theorem State.setAdmission_sched (s : State) (a : Admission) : (s.setAdmission a).sched = s.sched := rfl
@[simp] theorem State.setAdmission_agent (s : State) (a : Admission) : (s.setAdmission a).agent = s.agent := rfl
@[simp] theorem State.setAdmission_reports (s : State) (a : Admission) : (s.setAdmission a).reports = s.reports := rfl
@[simp] theorem State.setAdmission_pending (s : State) (a : Admission) : (s.setAdmission a).pending = s.pending := rfl

/-! ### State.finishOp -/

@[simp] theorem State.finishOp_resetLow (s : State) (k : OpKind) (o : OpOutcome) : (s.finishOp k o).resetLow = s.resetLow := rfl
@[simp] theorem State.finishOp_lt (s : State) (k : OpKind) (o : OpOutcome) : (s.finishOp k o).lt = s.lt := rfl
@[simp] theorem State.finishOp_line (s : State) (k : OpKind) (o : OpOutcome) : (s.finishOp k o).line = s.line := rfl
@[simp] theorem State.finishOp_classifier (s : State) (k : OpKind) (o : OpOutcome) : (s.finishOp k o).classifier = s.classifier := rfl
@[simp] theorem State.finishOp_map (s : State) (k : OpKind) (o : OpOutcome) : (s.finishOp k o).map = s.map := rfl
@[simp] theorem State.finishOp_capture (s : State) (k : OpKind) (o : OpOutcome) : (s.finishOp k o).capture = s.capture := rfl
@[simp] theorem State.finishOp_carousel (s : State) (k : OpKind) (o : OpOutcome) : (s.finishOp k o).carousel = s.carousel := rfl
@[simp] theorem State.finishOp_queues (s : State) (k : OpKind) (o : OpOutcome) : (s.finishOp k o).queues = s.queues := rfl
@[simp] theorem State.finishOp_sched (s : State) (k : OpKind) (o : OpOutcome) : (s.finishOp k o).sched = s.sched := rfl
@[simp] theorem State.finishOp_agent (s : State) (k : OpKind) (o : OpOutcome) : (s.finishOp k o).agent =
    { s.agent with longOp := s.agent.longOp.finish k o } := rfl
@[simp] theorem State.finishOp_reports (s : State) (k : OpKind) (o : OpOutcome) : (s.finishOp k o).reports = s.reports := rfl
@[simp] theorem State.finishOp_pending (s : State) (k : OpKind) (o : OpOutcome) : (s.finishOp k o).pending = s.pending := rfl

/-! ### State.endSession -/

@[simp] theorem State.endSession_resetLow (s : State) : (s.endSession).resetLow = s.resetLow := rfl
@[simp] theorem State.endSession_lt (s : State) : (s.endSession).lt = s.lt := rfl
@[simp] theorem State.endSession_line (s : State) : (s.endSession).line = s.line := rfl
@[simp] theorem State.endSession_classifier (s : State) : (s.endSession).classifier = s.classifier := rfl
@[simp] theorem State.endSession_map (s : State) : (s.endSession).map =
    { s.map with pendingCommit := none } := rfl
@[simp] theorem State.endSession_capture (s : State) : (s.endSession).capture =
    { s.capture with store := mapAll (setOwed false) s.capture.store } := rfl
@[simp] theorem State.endSession_carousel (s : State) : (s.endSession).carousel = s.carousel := rfl
@[simp] theorem State.endSession_queues (s : State) : (s.endSession).queues = s.queues := rfl
@[simp] theorem State.endSession_sched (s : State) : (s.endSession).sched = s.sched := rfl
@[simp] theorem State.endSession_agent (s : State) : (s.endSession).agent =
    { s.agent with session := none, longOp := .none, conds := mapAll CondEntry.clearOwed s.agent.conds } := rfl
@[simp] theorem State.endSession_reports (s : State) : (s.endSession).reports = s.reports := rfl
@[simp] theorem State.endSession_pending (s : State) : (s.endSession).pending = s.pending := rfl

/-! ### State.placeMgmt -/

@[simp] theorem State.placeMgmt_resetLow (s : State) (tag : Tag) (body : List Byte) (mark : Option RestartKind) : (s.placeMgmt tag body mark).resetLow = s.resetLow := rfl
@[simp] theorem State.placeMgmt_lt (s : State) (tag : Tag) (body : List Byte) (mark : Option RestartKind) : (s.placeMgmt tag body mark).lt = s.lt := rfl
@[simp] theorem State.placeMgmt_line (s : State) (tag : Tag) (body : List Byte) (mark : Option RestartKind) : (s.placeMgmt tag body mark).line = s.line := rfl
@[simp] theorem State.placeMgmt_classifier (s : State) (tag : Tag) (body : List Byte) (mark : Option RestartKind) : (s.placeMgmt tag body mark).classifier = s.classifier := rfl
@[simp] theorem State.placeMgmt_map (s : State) (tag : Tag) (body : List Byte) (mark : Option RestartKind) : (s.placeMgmt tag body mark).map = s.map := rfl
@[simp] theorem State.placeMgmt_capture (s : State) (tag : Tag) (body : List Byte) (mark : Option RestartKind) : (s.placeMgmt tag body mark).capture = s.capture := rfl
@[simp] theorem State.placeMgmt_carousel (s : State) (tag : Tag) (body : List Byte) (mark : Option RestartKind) : (s.placeMgmt tag body mark).carousel = s.carousel := rfl
@[simp] theorem State.placeMgmt_queues (s : State) (tag : Tag) (body : List Byte) (mark : Option RestartKind) : (s.placeMgmt tag body mark).queues =
    { s.queues with mgmt := s.queues.mgmt ++ [⟨buildCell tag s.agent.replySeq false body, tag, s.agent.replySeq, mark⟩] } := rfl
@[simp] theorem State.placeMgmt_sched (s : State) (tag : Tag) (body : List Byte) (mark : Option RestartKind) : (s.placeMgmt tag body mark).sched = s.sched := rfl
@[simp] theorem State.placeMgmt_agent (s : State) (tag : Tag) (body : List Byte) (mark : Option RestartKind) : (s.placeMgmt tag body mark).agent =
    { s.agent with replySeq := s.agent.replySeq + 1 } := rfl
@[simp] theorem State.placeMgmt_reports (s : State) (tag : Tag) (body : List Byte) (mark : Option RestartKind) : (s.placeMgmt tag body mark).reports = s.reports := rfl
@[simp] theorem State.placeMgmt_pending (s : State) (tag : Tag) (body : List Byte) (mark : Option RestartKind) : (s.placeMgmt tag body mark).pending = s.pending := rfl

/-! ### State.advanceExpected -/

@[simp] theorem State.advanceExpected_resetLow (s : State) : (s.advanceExpected).resetLow = s.resetLow := rfl
@[simp] theorem State.advanceExpected_lt (s : State) : (s.advanceExpected).lt = s.lt := rfl
@[simp] theorem State.advanceExpected_line (s : State) : (s.advanceExpected).line = s.line := rfl
@[simp] theorem State.advanceExpected_classifier (s : State) : (s.advanceExpected).classifier = s.classifier := rfl
@[simp] theorem State.advanceExpected_map (s : State) : (s.advanceExpected).map = s.map := rfl
@[simp] theorem State.advanceExpected_capture (s : State) : (s.advanceExpected).capture = s.capture := rfl
@[simp] theorem State.advanceExpected_carousel (s : State) : (s.advanceExpected).carousel = s.carousel := rfl
@[simp] theorem State.advanceExpected_queues (s : State) : (s.advanceExpected).queues = s.queues := rfl
@[simp] theorem State.advanceExpected_sched (s : State) : (s.advanceExpected).sched = s.sched := rfl
@[simp] theorem State.advanceExpected_agent (s : State) : (s.advanceExpected).agent =
    { s.agent with session := s.agent.session.map fun x => { x with expected := x.expected + 1 } } := rfl
@[simp] theorem State.advanceExpected_reports (s : State) : (s.advanceExpected).reports = s.reports := rfl
@[simp] theorem State.advanceExpected_pending (s : State) : (s.advanceExpected).pending = s.pending := rfl

/-! ### State.settle -/

@[simp] theorem State.settle_resetLow (s : State) (c : Command) (a : Answer) (tag : Tag) (mark : Option RestartKind) : (s.settle c a tag mark).resetLow = s.resetLow := rfl
@[simp] theorem State.settle_lt (s : State) (c : Command) (a : Answer) (tag : Tag) (mark : Option RestartKind) : (s.settle c a tag mark).lt = s.lt := rfl
@[simp] theorem State.settle_line (s : State) (c : Command) (a : Answer) (tag : Tag) (mark : Option RestartKind) : (s.settle c a tag mark).line = s.line := rfl
@[simp] theorem State.settle_classifier (s : State) (c : Command) (a : Answer) (tag : Tag) (mark : Option RestartKind) : (s.settle c a tag mark).classifier = s.classifier := rfl
@[simp] theorem State.settle_map (s : State) (c : Command) (a : Answer) (tag : Tag) (mark : Option RestartKind) : (s.settle c a tag mark).map = s.map := rfl
@[simp] theorem State.settle_capture (s : State) (c : Command) (a : Answer) (tag : Tag) (mark : Option RestartKind) : (s.settle c a tag mark).capture = s.capture := rfl
@[simp] theorem State.settle_carousel (s : State) (c : Command) (a : Answer) (tag : Tag) (mark : Option RestartKind) : (s.settle c a tag mark).carousel = s.carousel := rfl
@[simp] theorem State.settle_sched (s : State) (c : Command) (a : Answer) (tag : Tag) (mark : Option RestartKind) : (s.settle c a tag mark).sched = s.sched := rfl
@[simp] theorem State.settle_reports (s : State) (c : Command) (a : Answer) (tag : Tag) (mark : Option RestartKind) : (s.settle c a tag mark).reports = s.reports := rfl
@[simp] theorem State.settle_pending (s : State) (c : Command) (a : Answer) (tag : Tag) (mark : Option RestartKind) : (s.settle c a tag mark).pending = s.pending := rfl

/-! ### State.replyOutside -/

@[simp] theorem State.replyOutside_resetLow (s : State) (c : Command) (a : Answer) : (s.replyOutside c a).resetLow = s.resetLow := rfl
@[simp] theorem State.replyOutside_lt (s : State) (c : Command) (a : Answer) : (s.replyOutside c a).lt = s.lt := rfl
@[simp] theorem State.replyOutside_line (s : State) (c : Command) (a : Answer) : (s.replyOutside c a).line = s.line := rfl
@[simp] theorem State.replyOutside_classifier (s : State) (c : Command) (a : Answer) : (s.replyOutside c a).classifier = s.classifier := rfl
@[simp] theorem State.replyOutside_map (s : State) (c : Command) (a : Answer) : (s.replyOutside c a).map = s.map := rfl
@[simp] theorem State.replyOutside_capture (s : State) (c : Command) (a : Answer) : (s.replyOutside c a).capture = s.capture := rfl
@[simp] theorem State.replyOutside_carousel (s : State) (c : Command) (a : Answer) : (s.replyOutside c a).carousel = s.carousel := rfl
@[simp] theorem State.replyOutside_sched (s : State) (c : Command) (a : Answer) : (s.replyOutside c a).sched = s.sched := rfl
@[simp] theorem State.replyOutside_reports (s : State) (c : Command) (a : Answer) : (s.replyOutside c a).reports = s.reports := rfl
@[simp] theorem State.replyOutside_pending (s : State) (c : Command) (a : Answer) : (s.replyOutside c a).pending = s.pending := rfl

/-! ### State.answerRepeat -/

@[simp] theorem State.answerRepeat_resetLow (s : State) (x : Session) : (s.answerRepeat x).resetLow = s.resetLow := rfl
@[simp] theorem State.answerRepeat_lt (s : State) (x : Session) : (s.answerRepeat x).lt = s.lt := rfl
@[simp] theorem State.answerRepeat_line (s : State) (x : Session) : (s.answerRepeat x).line = s.line := rfl
@[simp] theorem State.answerRepeat_classifier (s : State) (x : Session) : (s.answerRepeat x).classifier = s.classifier := rfl
@[simp] theorem State.answerRepeat_map (s : State) (x : Session) : (s.answerRepeat x).map = s.map := rfl
@[simp] theorem State.answerRepeat_capture (s : State) (x : Session) : (s.answerRepeat x).capture = s.capture := rfl
@[simp] theorem State.answerRepeat_carousel (s : State) (x : Session) : (s.answerRepeat x).carousel = s.carousel := rfl
@[simp] theorem State.answerRepeat_sched (s : State) (x : Session) : (s.answerRepeat x).sched = s.sched := rfl
@[simp] theorem State.answerRepeat_reports (s : State) (x : Session) : (s.answerRepeat x).reports = s.reports := rfl
@[simp] theorem State.answerRepeat_pending (s : State) (x : Session) : (s.answerRepeat x).pending = s.pending := rfl

/-! ### State.placeNotice -/

@[simp] theorem State.placeNotice_resetLow (s : State) (kind : Byte) (contents : List Byte) : (s.placeNotice kind contents).resetLow = s.resetLow := rfl
@[simp] theorem State.placeNotice_lt (s : State) (kind : Byte) (contents : List Byte) : (s.placeNotice kind contents).lt = s.lt := rfl
@[simp] theorem State.placeNotice_line (s : State) (kind : Byte) (contents : List Byte) : (s.placeNotice kind contents).line = s.line := rfl
@[simp] theorem State.placeNotice_classifier (s : State) (kind : Byte) (contents : List Byte) : (s.placeNotice kind contents).classifier = s.classifier := rfl
@[simp] theorem State.placeNotice_map (s : State) (kind : Byte) (contents : List Byte) : (s.placeNotice kind contents).map = s.map := rfl
@[simp] theorem State.placeNotice_capture (s : State) (kind : Byte) (contents : List Byte) : (s.placeNotice kind contents).capture = s.capture := rfl
@[simp] theorem State.placeNotice_carousel (s : State) (kind : Byte) (contents : List Byte) : (s.placeNotice kind contents).carousel = s.carousel := rfl
@[simp] theorem State.placeNotice_sched (s : State) (kind : Byte) (contents : List Byte) : (s.placeNotice kind contents).sched = s.sched := rfl
@[simp] theorem State.placeNotice_reports (s : State) (kind : Byte) (contents : List Byte) : (s.placeNotice kind contents).reports = s.reports := rfl
@[simp] theorem State.placeNotice_pending (s : State) (kind : Byte) (contents : List Byte) : (s.placeNotice kind contents).pending = s.pending := rfl

/-! ### State.oweAll -/

@[simp] theorem State.oweAll_resetLow (s : State) : (s.oweAll).resetLow = s.resetLow := rfl
@[simp] theorem State.oweAll_lt (s : State) : (s.oweAll).lt = s.lt := rfl
@[simp] theorem State.oweAll_line (s : State) : (s.oweAll).line = s.line := rfl
@[simp] theorem State.oweAll_classifier (s : State) : (s.oweAll).classifier = s.classifier := rfl
@[simp] theorem State.oweAll_map (s : State) : (s.oweAll).map = s.map := rfl
@[simp] theorem State.oweAll_capture (s : State) : (s.oweAll).capture =
    { s.capture with store := mapAll (setOwed true) s.capture.store } := rfl
@[simp] theorem State.oweAll_carousel (s : State) : (s.oweAll).carousel = s.carousel := rfl
@[simp] theorem State.oweAll_queues (s : State) : (s.oweAll).queues = s.queues := rfl
@[simp] theorem State.oweAll_sched (s : State) : (s.oweAll).sched = s.sched := rfl
@[simp] theorem State.oweAll_agent (s : State) : (s.oweAll).agent =
    { s.agent with noticeNo := 0, conds := mapAll CondEntry.openOwed s.agent.conds } := rfl
@[simp] theorem State.oweAll_reports (s : State) : (s.oweAll).reports = s.reports := rfl
@[simp] theorem State.oweAll_pending (s : State) : (s.oweAll).pending = s.pending := rfl

/-! ### State.swap -/

@[simp] theorem State.swap_resetLow (s : State) : (s.swap).resetLow = s.resetLow := rfl
@[simp] theorem State.swap_lt (s : State) : (s.swap).lt = s.lt := rfl
@[simp] theorem State.swap_line (s : State) : (s.swap).line = s.line := rfl
@[simp] theorem State.swap_classifier (s : State) : (s.swap).classifier = s.classifier := rfl
@[simp] theorem State.swap_carousel (s : State) : (s.swap).carousel = s.carousel := rfl
@[simp] theorem State.swap_queues (s : State) : (s.swap).queues = s.queues := rfl
@[simp] theorem State.swap_sched (s : State) : (s.swap).sched = s.sched := rfl
@[simp] theorem State.swap_agent (s : State) : (s.swap).agent = s.agent := rfl
@[simp] theorem State.swap_reports (s : State) : (s.swap).reports = s.reports := rfl
@[simp] theorem State.swap_pending (s : State) : (s.swap).pending = s.pending := rfl

/-! ### State.abandon -/

@[simp] theorem State.abandon_resetLow (s : State) (i : Fin 8) (why : LossReason) : (s.abandon i why).resetLow = s.resetLow := rfl
@[simp] theorem State.abandon_lt (s : State) (i : Fin 8) (why : LossReason) : (s.abandon i why).lt = s.lt := rfl
@[simp] theorem State.abandon_line (s : State) (i : Fin 8) (why : LossReason) : (s.abandon i why).line = s.line := rfl
@[simp] theorem State.abandon_classifier (s : State) (i : Fin 8) (why : LossReason) : (s.abandon i why).classifier = s.classifier := rfl
@[simp] theorem State.abandon_map (s : State) (i : Fin 8) (why : LossReason) : (s.abandon i why).map = s.map := rfl
@[simp] theorem State.abandon_carousel (s : State) (i : Fin 8) (why : LossReason) : (s.abandon i why).carousel = s.carousel := rfl
@[simp] theorem State.abandon_queues (s : State) (i : Fin 8) (why : LossReason) : (s.abandon i why).queues = s.queues := rfl
@[simp] theorem State.abandon_sched (s : State) (i : Fin 8) (why : LossReason) : (s.abandon i why).sched = s.sched := rfl
@[simp] theorem State.abandon_agent (s : State) (i : Fin 8) (why : LossReason) : (s.abandon i why).agent = s.agent := rfl
@[simp] theorem State.abandon_pending (s : State) (i : Fin 8) (why : LossReason) : (s.abandon i why).pending = s.pending := rfl

/-! ### State.enterRestarting -/

@[simp] theorem State.enterRestarting_resetLow (s : State) : (s.enterRestarting).resetLow = s.resetLow := rfl
@[simp] theorem State.enterRestarting_lt (s : State) : (s.enterRestarting).lt = s.lt := rfl
@[simp] theorem State.enterRestarting_line (s : State) : (s.enterRestarting).line = s.line := rfl
@[simp] theorem State.enterRestarting_classifier (s : State) : (s.enterRestarting).classifier = s.classifier := rfl
@[simp] theorem State.enterRestarting_map (s : State) : (s.enterRestarting).map = s.map := rfl
@[simp] theorem State.enterRestarting_capture (s : State) : (s.enterRestarting).capture = s.capture := rfl
@[simp] theorem State.enterRestarting_carousel (s : State) : (s.enterRestarting).carousel = s.carousel := rfl
@[simp] theorem State.enterRestarting_queues (s : State) : (s.enterRestarting).queues = s.queues := rfl
@[simp] theorem State.enterRestarting_sched (s : State) : (s.enterRestarting).sched = s.sched := rfl
@[simp] theorem State.enterRestarting_reports (s : State) : (s.enterRestarting).reports = s.reports := rfl
@[simp] theorem State.enterRestarting_pending (s : State) : (s.enterRestarting).pending = s.pending := rfl

/-! ### State.configure -/

@[simp] theorem State.configure_resetLow (s : State) (i : SettingItem) (v : Nat) : (s.configure i v).resetLow = s.resetLow := rfl
@[simp] theorem State.configure_lt (s : State) (i : SettingItem) (v : Nat) : (s.configure i v).lt = s.lt := rfl
@[simp] theorem State.configure_line (s : State) (i : SettingItem) (v : Nat) : (s.configure i v).line = s.line := rfl
@[simp] theorem State.configure_classifier (s : State) (i : SettingItem) (v : Nat) : (s.configure i v).classifier = s.classifier := rfl
@[simp] theorem State.configure_map (s : State) (i : SettingItem) (v : Nat) : (s.configure i v).map = s.map := rfl
@[simp] theorem State.configure_capture (s : State) (i : SettingItem) (v : Nat) : (s.configure i v).capture = s.capture := rfl
@[simp] theorem State.configure_carousel (s : State) (i : SettingItem) (v : Nat) : (s.configure i v).carousel = s.carousel := rfl
@[simp] theorem State.configure_queues (s : State) (i : SettingItem) (v : Nat) : (s.configure i v).queues = s.queues := rfl
@[simp] theorem State.configure_agent (s : State) (i : SettingItem) (v : Nat) : (s.configure i v).agent =
    { s.agent with settings := s.agent.settings.set v i } := rfl
@[simp] theorem State.configure_reports (s : State) (i : SettingItem) (v : Nat) : (s.configure i v).reports = s.reports := rfl
@[simp] theorem State.configure_pending (s : State) (i : SettingItem) (v : Nat) : (s.configure i v).pending = s.pending := rfl

end Sys2Proof.Machine
end

