-- ==== Sys2Proof/Laws/Agent.lean ====
section
/-! SUPPORT. What the Agent's step on a session command does, once for every request: not taken, refused at steps 1 to 3, repeated, refused
BAD_ARGUMENT, or executed (R142 to R144). -/

namespace Sys2Proof.Machine

open Sys2Proof.Safety

variable {s : State} {code : Byte} {c : Command} {rest : List Cell} {x : Session} {α : Type}

/-- The state with the command taken from the queue. -/
def State.unqueued (s : State) (rest : List Cell) : State := { s with agent := { s.agent with cmdQueue := rest } }

/-- The state on which an executed command's request is made: the command has left the queue and E is advanced. -/
def State.taken (s : State) (rest : List Cell) (x : Session) : State :=
  { s with agent := { s.agent with cmdQueue := rest, session := some { x with expected := x.expected + 1 } } }

@[simp] theorem State.unqueued_session (s : State) (rest : List Cell) : (s.unqueued rest).agent.session = s.agent.session := rfl
@[simp] theorem State.unqueued_lt (s : State) (rest : List Cell) : (s.unqueued rest).lt = s.lt := rfl
@[simp] theorem State.unqueued_replyTag (s : State) (rest : List Cell) : (s.unqueued rest).agent.replyTag = s.agent.replyTag := rfl

theorem State.unqueued_advance (hs : s.agent.session = some x) : (s.unqueued rest).advanceExpected = s.taken rest x := by
  simp [State.unqueued, State.advanceExpected, State.taken, hs]

/-! ### Judging (R140, R142 to R144) -/

theorem State.endIfExpired_none (h : s.agent.session = none) : s.endIfExpired = s := by
  simp [State.endIfExpired, h]

theorem State.endIfExpired_alive (h : s.agent.session = some x) (ha : reached s.lt x.deadline = false) : s.endIfExpired = s := by
  simp [State.endIfExpired, h, ha]

theorem State.endIfExpired_reached (h : s.agent.session = some x) (ha : reached s.lt x.deadline = true) :
    s.endIfExpired = s.endSession := by
  simp [State.endIfExpired, h, ha]

theorem State.judge_noSession (r : Request α) (h : s.endIfExpired.agent.session = none) :
    s.judge c r = some (s.endIfExpired.replyOutside c (refusedWith .noSession [])) := by
  simp [State.judge, State.judgeOutside, h]

theorem State.judge_notOwner (r : Request α) (h : s.agent.session = some x) (ha : reached s.lt x.deadline = false)
    (hn : c.session ≠ x.number) :
    s.judge c r = some (s.replyOutside c (refusedWith .notOwner (beBytes 4 (timeLeft s.lt x.deadline)))) := by
  simp [State.judge, State.judgeOutside, State.endIfExpired_alive h ha, h, hn]

theorem State.judge_repeat (r : Request α) (h : s.agent.session = some x) (ha : reached s.lt x.deadline = false)
    (hn : c.session = x.number) (hq : c.seq = x.expected - 1) : s.judge c r = some (s.answerRepeat x) := by
  have hne : c.seq ≠ x.expected := by
    intro e
    have h1 : (1 : Byte) = 0 := by simpa using congrArg (fun y => x.expected - y) (hq.symm.trans e)
    exact absurd h1 (by decide)
  simp only [State.judge, State.judgeOutside, State.endIfExpired_alive h ha, h]
  rw [if_neg (not_not.2 hn), if_neg hne, if_pos hq]

theorem State.judge_outOfOrder (r : Request α) (h : s.agent.session = some x) (ha : reached s.lt x.deadline = false)
    (hn : c.session = x.number) (h1 : c.seq ≠ x.expected) (h2 : c.seq ≠ x.expected - 1) :
    s.judge c r = some (s.replyOutside c (refusedWith .outOfOrder [x.expected])) := by
  simp only [State.judge, State.judgeOutside, State.endIfExpired_alive h ha, h]
  rw [if_neg (not_not.2 hn), if_neg h1, if_neg h2]

theorem State.judge_badArgument (r : Request α) (h : s.agent.session = some x) (ha : reached s.lt x.deadline = false)
    (hn : c.session = x.number) (hq : c.seq = x.expected) (pos : Nat) (hp : r.parse c.args = .error pos) :
    s.judge c r = some (s.advanceExpected.settle c (badArgument pos) s.agent.replyTag none) := by
  simp only [State.judge, State.judgeOutside, State.endIfExpired_alive h ha, h]
  rw [if_neg (not_not.2 hn), if_pos hq]
  simp only [hp]

theorem State.judge_executed (r : Request α) (h : s.agent.session = some x) (ha : reached s.lt x.deadline = false)
    (hn : c.session = x.number) (hq : c.seq = x.expected) (y : α) (hp : r.parse c.args = .ok y) (hr : r.ready y s = true) :
    s.judge c r = some (r.after ((r.act c y s.advanceExpected).2.settle c (r.act c y s.advanceExpected).1 s.agent.replyTag (r.mark y))) := by
  simp only [State.judge, State.judgeOutside, State.endIfExpired_alive h ha, h]
  rw [if_neg (not_not.2 hn), if_pos hq]
  simp only [hp, hr, if_true]

theorem State.judge_notReady (r : Request α) (h : s.agent.session = some x) (ha : reached s.lt x.deadline = false)
    (hn : c.session = x.number) (hq : c.seq = x.expected) (y : α) (hp : r.parse c.args = .ok y) (hr : r.ready y s = false) :
    s.judge c r = none := by
  simp only [State.judge, State.judgeOutside, State.endIfExpired_alive h ha, h]
  rw [if_neg (not_not.2 hn), if_pos hq]
  simp [hp, hr]

/-! ### The states the judgement leaves -/

theorem State.replyOutside_unqueued (a : Answer) : (s.unqueued rest).replyOutside c a = answered s c rest a := by
  obtain ⟨st, rs, res⟩ := a
  cases st <;> rfl

theorem State.answerRepeat_unqueued : (s.unqueued rest).answerRepeat x = repeated s rest x := rfl

theorem State.settle_executed (u : State) (a : Answer) (mark : Option RestartKind)
    (hs : u.agent.session = some { x with expected := x.expected + 1 }) (hq : u.agent.replySeq = s.agent.replySeq)
    (hc : u.agent.cmdQueue = rest) : u.settle c a s.agent.replyTag mark = executed s u c rest x a mark := by
  obtain ⟨st, rs, res⟩ := a
  subst hc
  cases st <;>
    simp [executed, State.settle, State.placeMgmt, replyCell, newDeadline, State.freshDeadline, deadlineAfter,
      Config.timerUnit, AgentCounters.countReply, countedBy, hs, hq]

/-! ### The Agent's step on a session command (R136) -/

/-- The state a command that may be taken leaves in the queue. -/
theorem State.nextCommand_takes (h : Takes s code c rest) : s.nextCommand = some (c, s.unqueued rest) := by
  obtain ⟨cell, hq, hc⟩ := h.queued
  have hn : (s.noticeAllowed && s.noticeOwed) = false := by rcases h.noNotice with h | h <;> simp [h]
  rw [State.nextCommand, if_pos ⟨h.serving, h.buffer, hn⟩, hq]
  simp [hc, State.unqueued]

/-- Where the Agent may take no command, a session command does nothing. -/
theorem State.sessionCommand_none (code : Byte) (r : Request α) (h : s.nextCommand = none) : s.sessionCommand code r = s := by
  simp [State.sessionCommand, State.sessionCommandOf, h]

/-- A session command of another code than the head of the queue carries does nothing. -/
theorem State.sessionCommand_other (code : Byte) (r : Request α) (t : State) (h : s.nextCommand = some (c, t)) (hc : c.code ≠ code) :
    s.sessionCommand code r = s := by
  simp [State.sessionCommand, State.sessionCommandOf, h, hc]

theorem State.sessionCommand_judge (code : Byte) (r : Request α) (h : Takes s code c rest) :
    s.sessionCommand code r = ((s.unqueued rest).judge c r).getD s := by
  simp [State.sessionCommand, State.sessionCommandOf, State.nextCommand_takes h, h.coded]

/-- Step 1: NO_SESSION (R142). -/
theorem State.sessionCommand_noSession (r : Request α) (h : Takes s code c rest) (hs : s.agent.session = none) :
    s.sessionCommand code r = answered s c rest (refusedWith .noSession []) := by
  have he : (s.unqueued rest).endIfExpired = s.unqueued rest := State.endIfExpired_none (by simpa using hs)
  rw [State.sessionCommand_judge code r h, State.judge_noSession r (by rw [he]; simpa using hs), he, Option.getD_some,
    State.replyOutside_unqueued]

/-- The session's deadline is reached: it ends, and the command finds it CLOSED (R140). -/
theorem State.sessionCommand_expired (r : Request α) (h : Takes s code c rest) (hs : s.agent.session = some x)
    (hd : reached s.lt x.deadline = true) : s.sessionCommand code r = answered (ended s) c rest (refusedWith .noSession []) := by
  have he : (s.unqueued rest).endIfExpired = (ended s).unqueued rest := State.endIfExpired_reached (x := x) hs hd
  rw [State.sessionCommand_judge code r h, State.judge_noSession r (by rw [he]; rfl), he, Option.getD_some,
    State.replyOutside_unqueued]

/-- Step 2: NOT_OWNER with the time left (R142, R174). -/
theorem State.sessionCommand_notOwner (r : Request α) (h : Takes s code c rest) (hs : s.agent.session = some x)
    (hd : reached s.lt x.deadline = false) (hn : c.session ≠ x.number) :
    s.sessionCommand code r = answered s c rest (refusedWith .notOwner (beBytes 4 (timeLeft s.lt x.deadline))) := by
  rw [State.sessionCommand_judge code r h, State.judge_notOwner (s := s.unqueued rest) (x := x) r hs hd hn, Option.getD_some, State.replyOutside_unqueued]
  rfl

/-- Step 3: a repeat is answered from the cache (R143). -/
theorem State.sessionCommand_repeat (r : Request α) (h : Takes s code c rest) (hs : s.agent.session = some x)
    (hd : reached s.lt x.deadline = false) (hn : c.session = x.number) (hq : c.seq = x.expected - 1) :
    s.sessionCommand code r = repeated s rest x := by
  rw [State.sessionCommand_judge code r h, State.judge_repeat (s := s.unqueued rest) (x := x) r hs hd hn hq, Option.getD_some, State.answerRepeat_unqueued]

/-- Step 3: OUT_OF_ORDER with E (R143). -/
theorem State.sessionCommand_outOfOrder (r : Request α) (h : Takes s code c rest) (hs : s.agent.session = some x)
    (hd : reached s.lt x.deadline = false) (hn : c.session = x.number) (h1 : c.seq ≠ x.expected) (h2 : c.seq ≠ x.expected - 1) :
    s.sessionCommand code r = answered s c rest (refusedWith .outOfOrder [x.expected]) := by
  rw [State.sessionCommand_judge code r h, State.judge_outOfOrder (s := s.unqueued rest) (x := x) r hs hd hn h1 h2, Option.getD_some,
    State.replyOutside_unqueued]

/-- Step 5: BAD_ARGUMENT with the position (R142, R173, R174). -/
theorem State.sessionCommand_badArgument (r : Request α) (h : InSequence s code c rest x) (pos : Nat)
    (hp : r.parse c.args = .error pos) :
    s.sessionCommand code r = executed s s c rest x (refusedWith .badArgument [BitVec.ofNat 8 pos]) := by
  rw [State.sessionCommand_judge code r h.toTakes,
    State.judge_badArgument (s := s.unqueued rest) (x := x) r h.session h.alive h.owner h.next pos hp, Option.getD_some,
    State.unqueued_advance h.session, State.unqueued_replyTag, State.settle_executed (s := s) (rest := rest) (x := x) (s.taken rest x) _ _ rfl rfl rfl]
  rfl

/-- Step 6 and beyond: the request is made, and its answer settled, cached, counted and placed (R144). The request may touch neither the
session, the command queue nor the reply-tag sequence. -/
theorem State.sessionCommand_executed (r : Request α) (h : InSequence s code c rest x) (y : α) (hp : r.parse c.args = .ok y)
    (hr : r.ready y (s.unqueued rest) = true) (a : Answer) (u : State) (ha : r.act c y (s.taken rest x) = (a, u))
    (hs : u.agent.session = some { x with expected := x.expected + 1 }) (hq : u.agent.replySeq = s.agent.replySeq)
    (hc : u.agent.cmdQueue = rest) :
    s.sessionCommand code r = r.after (executed s u c rest x a (r.mark y)) := by
  rw [State.sessionCommand_judge code r h.toTakes,
    State.judge_executed (s := s.unqueued rest) (x := x) r h.session h.alive h.owner h.next y hp hr, Option.getD_some, State.unqueued_advance h.session, ha,
    State.unqueued_replyTag, State.settle_executed u a (r.mark y) hs hq hc]

/-- A block that cannot take the request yet leaves the command untaken (log 21). -/
theorem State.sessionCommand_notReady (r : Request α) (h : InSequence s code c rest x) (y : α) (hp : r.parse c.args = .ok y)
    (hr : r.ready y (s.unqueued rest) = false) : s.sessionCommand code r = s := by
  rw [State.sessionCommand_judge code r h.toTakes,
    State.judge_notReady (s := s.unqueued rest) (x := x) r h.session h.alive h.owner h.next y hp hr, Option.getD_none]

end Sys2Proof.Machine
end

