-- ==== Sys2Proof/Laws/Words.lean ====
section
/-! SUPPORT. Big-endian fields, saturating counters, fixed tables. -/

namespace Sys2Proof

@[simp] theorem beBytes_length (n v : Nat) : (beBytes n v).length = n := by
  induction n with
  | zero => rfl
  | succ n ih => simp [beBytes, ih]

/-- A field read after other bytes weighs those bytes by its width. -/
theorem beVal_foldl (bs : List Byte) (a : Nat) :
    bs.foldl (fun a b => a * 256 + b.toNat) a = a * 256 ^ bs.length + beVal bs := by
  induction bs generalizing a with
  | nil => simp [beVal]
  | cons b bs ih =>
    simp only [List.foldl_cons, List.length_cons, beVal]
    rw [ih, ih (0 * 256 + b.toNat)]
    ring

theorem beVal_cons (b : Byte) (bs : List Byte) : beVal (b :: bs) = b.toNat * 256 ^ bs.length + beVal bs := by
  have h := beVal_foldl bs (0 * 256 + b.toNat)
  simpa [beVal] using h

/-- A number written in `n` bytes reads back modulo what `n` bytes hold. -/
theorem beVal_beBytes (n v : Nat) : beVal (beBytes n v) = v % 256 ^ n := by
  induction n with
  | zero => simp [beBytes, beVal, Nat.mod_one]
  | succ n ih =>
    rw [beBytes, beVal_cons, beBytes_length, ih, BitVec.toNat_ofNat]
    have := Nat.mod_mul (x := v) (a := 256 ^ n) (b := 256)
    rw [pow_succ 256 n, this]
    norm_num
    ring

/-- A counter never falls at an increase (R168). -/
theorem Counter.le_add (c : Counter) (n : Nat) : c.toNat ≤ (Counter.add c n).toNat := by
  have := c.isLt
  unfold Counter.add counterLimit
  split <;> simp_all <;> omega

/-- The value of a counter after an increase (R168). -/
theorem Counter.toNat_add (c : Counter) (n : Nat) : (Counter.add c n).toNat = min (c.toNat + n) 4294967295 := by
  have := c.isLt
  unfold Counter.add counterLimit
  split <;> simp_all <;> omega

/-- Two increases are one increase by the sum (R168). -/
theorem Counter.add_add (c : Counter) (m n : Nat) : Counter.add (Counter.add c m) n = Counter.add c (m + n) := by
  apply BitVec.eq_of_toNat_eq
  simp only [Counter.toNat_add]
  omega

@[simp] theorem Counter.add_zero (c : Counter) : Counter.add c 0 = c := by
  have := c.isLt
  apply BitVec.eq_of_toNat_eq
  simp only [Counter.toNat_add]
  omega

namespace Machine

@[simp] theorem setAt_same {α : Type} {n : Nat} (v : Vector α n) (i : Fin n) (x : α) : (setAt v i x)[i] = x := by
  simp [setAt]

theorem setAt_other {α : Type} {n : Nat} (v : Vector α n) (i j : Fin n) (x : α) (h : j ≠ i) : (setAt v i x)[j] = v[j] := by
  have : (i : Nat) ≠ j := fun e => h (Fin.ext e.symm)
  simp [setAt, this]

@[simp] theorem mapAll_get {α β : Type} {n : Nat} (f : α → β) (v : Vector α n) (i : Fin n) : (mapAll f v)[i] = f v[i] := by
  simp only [mapAll, Fin.getElem_fin, Vector.getElem_mk, List.getElem_toArray, List.getElem_map, Vector.getElem_toList]

theorem mem_contextNumbers (i : Fin 8) : i ∈ contextNumbers := by revert i; decide

theorem mem_recordNumbers (i : Fin 4) : i ∈ recordNumbers := by revert i; decide

theorem mem_slotNumbers (i : Fin 16) : i ∈ slotNumbers := by revert i; decide

/-- A bank's name and the store's bank of that name. -/
@[simp] theorem MapStore.bank_setBank_same (m : MapStore) (i : BankId) (b : Bank) : (m.setBank i b).bank i = b := by
  cases i <;> rfl

@[simp] theorem MapStore.bank_setBank_other (m : MapStore) (i : BankId) (b : Bank) : (m.setBank i b).bank i.other = m.bank i.other := by
  cases i <;> rfl

@[simp] theorem MapStore.active_setBank (m : MapStore) (i : BankId) (b : Bank) : (m.setBank i b).active = m.active := by
  cases i <;> rfl

@[simp] theorem MapStore.pendingCommit_setBank (m : MapStore) (i : BankId) (b : Bank) :
    (m.setBank i b).pendingCommit = m.pendingCommit := by
  cases i <;> rfl

@[simp] theorem BankId.other_other (i : BankId) : i.other.other = i := by cases i <;> rfl

theorem BankId.other_ne (i : BankId) : i.other ≠ i := by cases i <;> decide

end Machine

end Sys2Proof
end

