-- ==== Sys2Proof/Laws/Engines.lean ====
section
/-! SUPPORT. What the engines' shared operations can do: the arrival LT, the taking of a report, the due list's order, the choice of an emission, the slot decided, the output line, stale heads, abandonments. -/

namespace Sys2Proof.Machine

/-! ## The arrival LT (R69) -/

/-- An examination keeps the LT of its position's first byte, and the ticks counted since. -/
@[simp] theorem LineReceiver.examine_examinedLt (l : LineReceiver) (h : HeaderSample) : (l.examine h).1.examinedLt = l.examinedLt := by
  simp only [LineReceiver.examine]
  split <;> first | rfl | (split <;> rfl)

@[simp] theorem LineReceiver.examine_examinedAgo (l : LineReceiver) (h : HeaderSample) : (l.examine h).1.examinedAgo = l.examinedAgo := by
  simp only [LineReceiver.examine]
  split <;> first | rfl | (split <;> rfl)

/-- The ticks since an LT, but for whole rounds. -/
theorem ticksSince_add (arrival : Lt) (ago : Nat) : ticksSince (arrival + BitVec.ofNat 48 ago) arrival = ago % 2 ^ 48 := by
  rw [ticksSince, BitVec.add_comm, BitVec.add_sub_cancel, BitVec.toNat_ofNat]

/-- Whole rounds of LT more lead back to the same LT. -/
theorem add_ticksSince (now arrival : Lt) (rounds : Nat) :
    arrival + BitVec.ofNat 48 (ticksSince now arrival + rounds * 2 ^ 48) = now := by
  have e : BitVec.ofNat 48 (ticksSince now arrival + rounds * 2 ^ 48) = now - arrival :=
    BitVec.eq_of_toNat_eq (by
      rw [BitVec.toNat_ofNat, Nat.add_mul_mod_self_right]
      exact Nat.mod_eq_of_lt (BitVec.isLt _))
  rw [e, BitVec.add_comm, BitVec.sub_add_cancel]

/-- LT itself is always an arrival that the position next examined may have. -/
theorem LineReceiver.counts_now (l : LineReceiver) (now : Lt) : l.counts now now = true := by
  simp [LineReceiver.counts, ticksSince]

/-- So is the LT at any of the ticks since the position last examined, whatever rounds of LT they span (R119). -/
theorem LineReceiver.counts_ago (l : LineReceiver) (arrival : Lt) (ago : Nat) (h : ago ≤ l.examinedAgo) :
    l.counts (arrival + BitVec.ofNat 48 ago) arrival = true := by
  rw [LineReceiver.counts, ticksSince_add]
  exact decide_eq_true ((Nat.mod_le _ _).trans h)

/-- Of the ages that an LT leaves open the greatest allowed is counted. -/
theorem LineReceiver.keepLt_ago (l : LineReceiver) (arrival : Lt) (ago : Nat) (h : ago ≤ l.examinedAgo)
    (hg : l.examinedAgo < ago + 2 ^ 48) :
    l.keepLt (arrival + BitVec.ofNat 48 ago) arrival = { l with examinedLt := arrival, examinedAgo := ago } := by
  have e : ago % 2 ^ 48 + (l.examinedAgo - ago % 2 ^ 48) / 2 ^ 48 * 2 ^ 48 = ago := by omega
  simp only [LineReceiver.keepLt, ticksSince_add, e]

/-- The LT kept is LT less the ticks counted since. -/
theorem LineReceiver.keepLt_lt (l : LineReceiver) (now arrival : Lt) :
    (l.keepLt now arrival).examinedLt + BitVec.ofNat 48 (l.keepLt now arrival).examinedAgo = now :=
  add_ticksSince now arrival _

/-! ## Reports (R161) -/

/-- The next report of a block is taken from between the reports of other blocks. -/
theorem takeReport_next (r : Report) (before after : List Report) (h : ∀ x ∈ before, x.reporter ≠ r.reporter) :
    takeReport r (before ++ r :: after) = some (before ++ after) := by
  induction before with
  | nil => simp [takeReport]
  | cons y ys ih =>
    rw [List.cons_append, takeReport, if_neg (h y (List.mem_cons_self ..)), ih fun x hx => h x (List.mem_cons_of_mem _ hx)]
    rfl

/-- A report is taken only from such a place. -/
theorem takeReport_some (r : Report) (rs rest : List Report) (h : takeReport r rs = some rest) :
    ∃ before after, rs = before ++ r :: after ∧ rest = before ++ after ∧ ∀ x ∈ before, x.reporter ≠ r.reporter := by
  induction rs generalizing rest with
  | nil => simp [takeReport] at h
  | cons y ys ih =>
    rw [takeReport] at h
    split_ifs at h with h1 h2
    · cases h
      exact ⟨[], ys, by rw [h2]; rfl, rfl, nofun⟩
    · obtain ⟨rest', hr, rfl⟩ := Option.map_eq_some_iff.mp h
      obtain ⟨before, after, e1, e2, e3⟩ := ih rest' hr
      refine ⟨y :: before, after, by rw [e1]; rfl, by rw [e2]; rfl, fun x hx => ?_⟩
      rcases List.mem_cons.mp hx with rfl | hx
      · exact h1
      · exact e3 x hx

/-! ## The due list (R107, R108) -/

/-- `i` may stand before `j` in the order of choice. -/
def Carousel.Before (c : Carousel) (lt : Lt) (i j : Fin 16) : Prop :=
  c.age lt j < c.age lt i ∨ (c.age lt j = c.age lt i ∧ i ≤ j)

theorem Carousel.insertDue_perm (c : Carousel) (lt : Lt) (i : Fin 16) (js : List (Fin 16)) : (c.insertDue lt i js).Perm (i :: js) := by
  induction js with
  | nil => exact .refl _
  | cons j js ih =>
    rw [Carousel.insertDue]
    split_ifs
    · exact .refl _
    · exact (ih.cons j).trans (.swap i j js)

theorem Carousel.insertDue_sorted (c : Carousel) (lt : Lt) (i : Fin 16) (js : List (Fin 16)) (h : js.Pairwise (c.Before lt)) :
    (c.insertDue lt i js).Pairwise (c.Before lt) := by
  induction js with
  | nil => simp [Carousel.insertDue]
  | cons j js ih =>
    rw [Carousel.insertDue]
    obtain ⟨hj, hs⟩ := List.pairwise_cons.mp h
    split_ifs with hc
    · refine List.pairwise_cons.mpr ⟨fun k hk => ?_, h⟩
      rcases List.mem_cons.mp hk with rfl | hk
      · rcases hc with hc | ⟨hc, hi⟩
        · exact .inl hc
        · exact .inr ⟨hc.symm, hi.le⟩
      · have := hj k hk
        simp only [Carousel.Before] at this ⊢
        omega
    · refine List.pairwise_cons.mpr ⟨fun k hk => ?_, ih hs⟩
      rcases List.mem_cons.mp ((c.insertDue_perm lt i js).mem_iff.mp hk) with rfl | hk
      · simp only [Carousel.Before]
        omega
      · exact hj k hk

/-- A due list in the order of choice holds the same slots. -/
theorem Carousel.sortDue_perm (c : Carousel) (lt : Lt) (is : List (Fin 16)) : (c.sortDue lt is).Perm is := by
  induction is with
  | nil => exact .refl _
  | cons i is ih => exact (c.insertDue_perm lt i _).trans (ih.cons i)

/-- It stands in that order: longest reached first, then the lowest number. -/
theorem Carousel.sortDue_sorted (c : Carousel) (lt : Lt) (is : List (Fin 16)) : (c.sortDue lt is).Pairwise (c.Before lt) := by
  induction is with
  | nil => exact .nil
  | cons i is ih => exact c.insertDue_sorted lt i _ ih

/-- Only one list holds given slots in the order of choice. -/
theorem Carousel.sortDue_unique (c : Carousel) (lt : Lt) (is js : List (Fin 16)) (hp : js.Perm is) (hs : js.Pairwise (c.Before lt)) :
    c.sortDue lt is = js :=
  ((c.sortDue_perm lt is).trans hp.symm).eq_of_pairwise
    (fun i j _ _ h1 h2 => by simp only [Carousel.Before] at h1 h2; omega) (c.sortDue_sorted lt is) hs

/-- The order of choice depends on the slots listed alone. -/
theorem Carousel.sortDue_congr (c c' : Carousel) (lt : Lt) (is : List (Fin 16)) (h : ∀ i ∈ is, c.age lt i = c'.age lt i) :
    c.sortDue lt is = c'.sortDue lt is := by
  refine c.sortDue_unique lt is _ (c'.sortDue_perm lt is) ((c'.sortDue_sorted lt is).imp_of_mem fun {i j} hi hj hb => ?_)
  rw [Carousel.Before, h i ((c'.sortDue_perm lt is).mem_iff.mp hi), h j ((c'.sortDue_perm lt is).mem_iff.mp hj)]
  exact hb

/-! ## The choice of an emission (R108 to R110) -/

/-- A busy engine does not choose. -/
theorem State.choose_busy (s : State) (e : Emission) (h : s.carousel.emission = some e) : s.choose = s := by
  rw [State.choose, h]

/-- With nothing due a free engine stays free. -/
theorem State.choose_idle (s : State) (h : s.carousel.emission = none) (hd : s.carousel.due = []) : s.choose = s := by
  rw [State.choose, h, hd]
  obtain ⟨_, _, _, _, _, _, ⟨_, _, _⟩, _, _, _, _, _⟩ := s
  cases hd
  rfl

/-- An emission's start touches the carousel and the condition reports only. -/
theorem State.startEmission_frame (s : State) (i : Fin 16) (d d' : SlotData) (body : List Byte) :
    ∃ c rs, State.startEmission s i d d' body = { s with carousel := c, reports := rs } := by
  cases h : decide (2 ≤ d.elapsed s.lt) <;> simp only [State.startEmission, h] <;> exact ⟨_, _, rfl⟩

/-- A choice touches the carousel and the condition reports only. -/
theorem State.chooseFrom_frame (is : List (Fin 16)) (s : State) :
    ∃ c rs, State.chooseFrom is s = { s with carousel := c, reports := rs } := by
  induction is generalizing s with
  | nil => exact ⟨_, _, rfl⟩
  | cons i is ih =>
    rw [State.chooseFrom]
    split
    · exact ih s
    · split
      · obtain ⟨c, rs, h⟩ := ih (s.setSlot i _)
        exact ⟨c, rs, h⟩
      · obtain ⟨c, rs, h⟩ := State.startEmission_frame { s with carousel := { s.carousel with due := is } } i _ _ _
        exact ⟨c, rs, h⟩

theorem State.choose_frame (s : State) : ∃ c rs, s.choose = { s with carousel := c, reports := rs } := by
  rw [State.choose]
  split
  · exact ⟨_, _, rfl⟩
  · exact State.chooseFrom_frame _ s

/-! ## The slot decided and the output line (R57, R64, R132, R133) -/

/-- The first slot after a hard reset carries filler and takes no cell. -/
theorem State.decideNext_first (s : State) (h : s.sched.outSlot = none) : s.decideNext = ⟨.filler, s.queues, 0⟩ := by
  rw [State.decideNext, h]

/-- Every later slot is arbitrated. -/
theorem State.decideNext_later (s : State) (h : s.sched.outSlot.isSome = true) :
    s.decideNext = decideSlot s.queues s.sched.shareCount s.agent.settings.tableShare s.lt := by
  obtain ⟨o, ho⟩ := Option.isSome_iff_exists.mp h
  rw [State.decideNext, ho]

/-- While RESET_N is low the line carries 0x00 with OSTART low. -/
theorem State.outLines_resetLow (s : State) (k : Nat) (h : s.resetLow = true) : s.outLines k = ⟨0x00, false⟩ := by
  rw [State.outLines, if_pos h]

/-- In a slot the line carries the slot's bytes, OSTART high with the first. -/
theorem State.outLines_slot (s : State) (o : OutSlot) (k : Nat) (h : s.resetLow = false) (ho : s.sched.outSlot = some o) :
    s.outLines k = ⟨o.bytes.getD k 0, decide (k = 0)⟩ := by
  rw [State.outLines, h, ho]
  rfl

/-! ## Stale heads (R59, R73, R74) -/

/-- The stale heads go, and as many as are counted; what is left is the queue behind them. -/
theorem dropStaleHeads_split (lt : Lt) (ms : List MediaCell) :
    ∃ gone, ms = gone ++ (dropStaleHeads lt ms).1 ∧ gone.length = (dropStaleHeads lt ms).2 ∧ ∀ m ∈ gone, m.discarded lt = true := by
  induction ms with
  | nil => exact ⟨[], rfl, rfl, nofun⟩
  | cons m ms ih =>
    rw [dropStaleHeads]
    split_ifs with hm
    · obtain ⟨gone, e1, e2, e3⟩ := ih
      refine ⟨m :: gone, congrArg (m :: ·) e1, congrArg Nat.succ e2, fun y hy => ?_⟩
      rcases List.mem_cons.mp hy with rfl | hy
      · exact hm
      · exact e3 y hy
    · exact ⟨[], rfl, rfl, nofun⟩

/-- The head that is left is not discarded. -/
theorem dropStaleHeads_head (lt : Lt) (ms rest : List MediaCell) (m : MediaCell) (h : (dropStaleHeads lt ms).1 = m :: rest) :
    m.discarded lt = false := by
  induction ms with
  | nil => simp [dropStaleHeads] at h
  | cons y ys ih =>
    rw [dropStaleHeads] at h
    split_ifs at h with hy
    · exact ih h
    · cases h
      simpa using hy

/-! ## Abandonments (R86) -/

/-- An abandoned context is ARMED and every other context is as it was. -/
theorem State.abandon_contexts (s : State) (i j : Fin 8) (why : LossReason) :
    (s.abandon i why).capture.contexts[j] =
      if j = i then { s.capture.contexts[i] with
        state := .armed, lastLoss := some (why, s.lt)
        counters := { s.capture.contexts[i].counters with abandoned := Counter.inc s.capture.contexts[i].counters.abandoned } }
      else s.capture.contexts[j] := by
  split_ifs with h
  · subst h
    exact setAt_same _ _ _
  · exact setAt_other _ _ _ _ h

end Sys2Proof.Machine
end

