-- ==== Sys2Proof/Laws/Memory.lean ====
section
/-! SUPPORT. The pending image: what a read gives after a write, and the canonical form kept by every write. -/

namespace Sys2Proof.Machine

@[simp] theorem Memory.read_nil (a : Nat) : Memory.read [] a = 0 := rfl

theorem Memory.read_cons_pair (c : Host.Cell) (m : Memory) (a : Nat) :
    Memory.read (c :: m) a = if c.1 = a then c.2 else Memory.read m a := rfl

/-- What the canonical form says of a nonempty memory: the first byte is listed with reason, below every other offset. -/
theorem Memory.wf_cons_iff (c : Host.Cell) (m : Memory) :
    Memory.wf (c :: m) = true ↔ c.2 ≠ 0 ∧ (∀ d ∈ m, c.1 < d.1) ∧ Memory.wf m = true := by
  induction m generalizing c with
  | nil => simp [Memory.wf, Memory.unlisted]
  | cons d m ih =>
    simp only [Memory.wf, Memory.unlisted, Bool.and_eq_true, bne_iff_ne, ne_eq, decide_eq_true_eq, List.mem_cons,
      forall_eq_or_imp]
    constructor
    · rintro ⟨⟨h1, h2⟩, h3⟩
      exact ⟨h1, ⟨h2, fun e he => lt_trans h2 (((ih d).1 h3).2.1 e he)⟩, h3⟩
    · rintro ⟨h1, ⟨h2, -⟩, h3⟩
      exact ⟨⟨h1, h2⟩, h3⟩

/-- An offset below every listed one reads as unlisted. -/
theorem Memory.read_below (m : Memory) (a : Nat) (h : ∀ d ∈ m, a < d.1) : Memory.read m a = 0 := by
  induction m with
  | nil => rfl
  | cons d m ih =>
    rw [Memory.read_cons_pair, if_neg (Nat.ne_of_gt (h d (by simp))), ih fun e he => h e (by simp [he])]

theorem Memory.read_cons (a : Nat) (v : Byte) (m : Memory) (b : Nat) (h : ∀ d ∈ m, a < d.1) :
    Memory.read (Memory.cons a v m) b = if a = b then v else Memory.read m b := by
  unfold Memory.cons Memory.unlisted
  split
  · next hv =>
    subst hv
    split
    · next hab => subst hab; exact Memory.read_below m a h
    · rfl
  · rfl

theorem Memory.wf_cons (a : Nat) (v : Byte) (m : Memory) (hm : Memory.wf m = true) (h : ∀ d ∈ m, a < d.1) :
    Memory.wf (Memory.cons a v m) = true := by
  unfold Memory.cons Memory.unlisted
  split
  · exact hm
  · next hv => exact (Memory.wf_cons_iff _ _).2 ⟨hv, h, hm⟩

theorem Memory.mem_cons (a : Nat) (v : Byte) (m : Memory) (d : Host.Cell) (h : d ∈ Memory.cons a v m) : d.1 = a ∨ d ∈ m := by
  unfold Memory.cons at h
  split at h
  · exact .inr h
  · rcases List.mem_cons.1 h with rfl | h
    · exact .inl rfl
    · exact .inr h

theorem Memory.mem_write (m : Memory) (a : Nat) (v : Byte) (d : Host.Cell) (h : d ∈ Memory.write m a v) : d.1 = a ∨ d ∈ m := by
  induction m with
  | nil => exact (Memory.mem_cons a v [] d h)
  | cons c m ih =>
    simp only [Memory.write] at h
    split at h
    · rcases List.mem_cons.1 h with rfl | h
      · simp
      · rcases ih h with h | h <;> simp [h]
    · split at h
      · rcases Memory.mem_cons a v m d h with h | h <;> simp [h]
      · exact Memory.mem_cons a v (c :: m) d h

/-- A write keeps the canonical form. -/
theorem Memory.wf_write (m : Memory) (a : Nat) (v : Byte) (hm : Memory.wf m = true) : Memory.wf (Memory.write m a v) = true := by
  induction m with
  | nil => exact Memory.wf_cons a v [] rfl (by simp)
  | cons c m ih =>
    obtain ⟨h1, h2, h3⟩ := (Memory.wf_cons_iff c m).1 hm
    simp only [Memory.write]
    split
    · next hlt =>
      refine (Memory.wf_cons_iff _ _).2 ⟨h1, fun d hd => ?_, ih h3⟩
      rcases Memory.mem_write m a v d hd with h | h
      · omega
      · exact h2 d h
    · split
      · next heq => exact Memory.wf_cons a v m h3 fun d hd => heq ▸ h2 d hd
      · next hlt hne =>
        refine Memory.wf_cons a v _ hm fun d hd => ?_
        rcases List.mem_cons.1 hd with rfl | hd
        · omega
        · have := h2 d hd; omega

/-- What an offset reads as after a write: the byte written, or what it read as before. -/
theorem Memory.read_write (m : Memory) (a : Nat) (v : Byte) (b : Nat) (hm : Memory.wf m = true) :
    Memory.read (Memory.write m a v) b = if a = b then v else Memory.read m b := by
  induction m with
  | nil => simpa [Memory.write] using Memory.read_cons a v [] b (by simp)
  | cons c m ih =>
    obtain ⟨-, h2, h3⟩ := (Memory.wf_cons_iff c m).1 hm
    simp only [Memory.write]
    split
    · next hlt =>
      rw [Memory.read_cons_pair, Memory.read_cons_pair, ih h3]
      split <;> split <;> first | rfl | omega
    · split
      · next heq =>
        rw [Memory.read_cons a v m b fun d hd => heq ▸ h2 d hd, Memory.read_cons_pair, heq]
        split <;> rfl
      · next hlt hne =>
        refine Memory.read_cons a v _ b fun d hd => ?_
        rcases List.mem_cons.1 hd with rfl | hd
        · omega
        · have := h2 d hd; omega

theorem Memory.wf_writeAll (vs : List Byte) (m : Memory) (a : Nat) (hm : Memory.wf m = true) :
    Memory.wf (Memory.writeAll m a vs) = true := by
  induction vs generalizing m a with
  | nil => exact hm
  | cons v vs ih => exact ih _ _ (Memory.wf_write m a v hm)

/-- What an offset reads as after a write of consecutive bytes (R102). -/
theorem Memory.read_writeAll (vs : List Byte) (m : Memory) (a b : Nat) (hm : Memory.wf m = true) :
    Memory.read (Memory.writeAll m a vs) b = if a ≤ b ∧ b < a + vs.length then vs.getD (b - a) 0 else Memory.read m b := by
  induction vs generalizing m a with
  | nil => rw [Memory.writeAll, if_neg]; simp
  | cons v vs ih =>
    rw [Memory.writeAll, ih _ _ (Memory.wf_write m a v hm), Memory.read_write m a v b hm, List.length_cons]
    by_cases h : a = b
    · subst h; simp
    · by_cases h' : a + 1 ≤ b ∧ b < a + 1 + vs.length
      · have e : b - a = (b - (a + 1)) + 1 := by omega
        rw [if_pos h', if_pos (by omega), e, List.getD_cons_succ]
      · rw [if_neg h', if_neg h, if_neg (by omega)]

theorem Memory.mem_writeAll (vs : List Byte) (m : Memory) (a : Nat) (d : Host.Cell) (h : d ∈ Memory.writeAll m a vs) :
    (a ≤ d.1 ∧ d.1 < a + vs.length) ∨ d ∈ m := by
  induction vs generalizing m a with
  | nil => exact .inr h
  | cons v vs ih =>
    rw [List.length_cons]
    rcases ih _ _ h with h | h
    · omega
    · rcases Memory.mem_write m a v d h with h | h
      · omega
      · exact .inr h

@[simp] theorem Memory.readAll_length (m : Memory) (a n : Nat) : (Memory.readAll m a n).length = n := by
  induction n generalizing a with
  | zero => rfl
  | succ n ih => simp [Memory.readAll, ih]

theorem Memory.readAll_get (m : Memory) (a n i : Nat) (h : i < n) : (Memory.readAll m a n).getD i 0 = Memory.read m (a + i) := by
  induction n generalizing a i with
  | zero => omega
  | succ n ih =>
    cases i with
    | zero => simp [Memory.readAll]
    | succ i =>
      rw [Memory.readAll, List.getD_cons_succ, ih (a + 1) i (by omega)]
      congr 1; omega

end Sys2Proof.Machine
end

