-- ==== Sys2Proof/Laws/Operands.lean ====
section
/-! SUPPORT. Every reader gives back the value whose bytes it meets, and leaves what follows (R173, R206). -/

namespace Sys2Proof.Machine

theorem readBytes_append (bs rest : List Byte) : readBytes bs.length (bs ++ rest) = some (bs, rest) := by
  simp [readBytes]

theorem readNat_beBytes (n v : Nat) (rest : List Byte) : readNat n (beBytes n v ++ rest) = some (v % 256 ^ n, rest) := by
  have h := readBytes_append (beBytes n v) rest
  rw [beBytes_length] at h
  simp [readNat, h, beVal_beBytes]

theorem readRange_beBytes (n lo hi v : Nat) (rest : List Byte) (hv : v < 256 ^ n) (h1 : lo ≤ v) (h2 : v ≤ hi) :
    readRange n lo hi (beBytes n v ++ rest) = some (v, rest) := by
  simp [readRange, readWhere, readNat_beBytes, Nat.mod_eq_of_lt hv, h1, h2]

theorem readTag_tagBytes (t : Tag) (rest : List Byte) (h : t ≠ 0) : readTag (tagBytes t ++ rest) = some (t, rest) := by
  have h1 := t.isLt
  have h2 : t.toNat ≠ 0 := fun e => h (BitVec.eq_of_toNat_eq (by simpa using e))
  rw [readTag, readWhere, tagBytes, readRange_beBytes 2 1 4095 t.toNat rest (by omega) (by omega) (by omega)]
  simp

theorem readTagOrZero_tagBytes (t : Tag) (rest : List Byte) : readTagOrZero (tagBytes t ++ rest) = some (t, rest) := by
  have h1 := t.isLt
  rw [readTagOrZero, readWhere, tagBytes, readRange_beBytes 2 0 4095 t.toNat rest (by omega) (by omega) (by omega)]
  simp

theorem readNat_byte (b : Byte) (rest : List Byte) : readNat 1 (b :: rest) = some (b.toNat, rest) := by
  simp [readNat, readBytes, beVal]

theorem readFlag_flagByte (b : Bool) (rest : List Byte) : readFlag (flagByte b :: rest) = some (b, rest) := by
  cases b <;> simp [readFlag, readRange, readWhere, readNat_byte, flagByte]

theorem readIndex_byte (n : Nat) (i : Fin n) (rest : List Byte) (hn : n ≤ 256) :
    readIndex n (BitVec.ofNat 8 i.val :: rest) = some (i, rest) := by
  have h : i.val % 256 = i.val := Nat.mod_eq_of_lt (by omega)
  simp [readIndex, readWhere, readNat_byte, h]

theorem readRange_byte (lo hi : Nat) (b : Byte) (rest : List Byte) (h1 : lo ≤ b.toNat) (h2 : b.toNat ≤ hi) :
    readRange 1 lo hi (b :: rest) = some (b.toNat, rest) := by
  simp [readRange, readWhere, readNat_byte, h1, h2]

theorem readAction_toByte (a : Action) (rest : List Byte) : readAction (a.toByte :: rest) = some (a, rest) := by
  cases a <;> simp [readAction, readCode, readWhere, readNat_byte, Action.toByte]

theorem readDefault_toByte (a : DefaultAction) (rest : List Byte) : readDefault (a.toByte :: rest) = some (a, rest) := by
  cases a <;> simp [readDefault, readCode, readWhere, readNat_byte, DefaultAction.toByte]

theorem readNumbering_toByte (a : Numbering) (rest : List Byte) : readNumbering (a.toByte :: rest) = some (a, rest) := by
  cases a <;> simp [readNumbering, readCode, readWhere, readNat_byte, Numbering.toByte]

theorem readDamage_toByte (a : DamagePolicy) (rest : List Byte) : readDamage (a.toByte :: rest) = some (a, rest) := by
  cases a <;> simp [readDamage, readCode, readWhere, readNat_byte, DamagePolicy.toByte]

theorem readStale_toByte (a : StalePolicy) (rest : List Byte) : readStale (a.toByte :: rest) = some (a, rest) := by
  cases a <;> simp [readStale, readCode, readWhere, readNat_byte, StalePolicy.toByte]

theorem readBank_toByte (i : BankId) (rest : List Byte) : readBank (i.toByte :: rest) = some (i, rest) := by
  cases i <;> simp [readBank, readCode, readWhere, readNat_byte, BankId.toByte]

theorem readMode_toByte (a : VersionMode) (rest : List Byte) : readMode (a.toByte :: rest) = some (a, rest) := by
  cases a <;> simp [readMode, readCode, readWhere, readNat_byte, VersionMode.toByte]

theorem readRestart_toByte (a : RestartKind) (rest : List Byte) : readRestart (a.toByte :: rest) = some (a, rest) := by
  cases a <;> simp [readRestart, readCode, readWhere, readNat_byte, RestartKind.toByte]

theorem readCond_toByte (a : CondKind) (rest : List Byte) : readCond (condCode a :: rest) = some (a, rest) := by
  cases a <;> simp [readCond, readCode, readWhere, readNat_byte, condCode, condKinds]

theorem readItem_toByte (a : SettingItem) (rest : List Byte) : readItem (a.toByte :: rest) = some (a, rest) := by
  cases a <;> simp [readItem, readCode, readWhere, readNat_byte, SettingItem.toByte]

theorem readGroup_toByte (a : CounterGroup) (rest : List Byte) : readGroup (a.toByte :: rest) = some (a, rest) := by
  cases a <;> simp [readGroup, readCode, readWhere, readNat_byte, CounterGroup.toByte]

theorem readTypeFilter_type (t : Byte) (rest : List Byte) :
    readTypeFilter (beBytes 2 t.toNat ++ rest) = some (some t, rest) := by
  have h := t.isLt
  rw [readTypeFilter, readWhere, readRange_beBytes 2 0 256 t.toNat rest (by omega) (by omega) (by omega)]
  have : t.toNat ≠ 256 := by omega
  simp [this]

theorem readTypeFilter_any (rest : List Byte) : readTypeFilter (0x01 :: 0x00 :: rest) = some (none, rest) := by
  simp [readTypeFilter, readWhere, readRange, readNat, readBytes, beVal]

/-- An absent optional argument: its value bytes may hold anything (R173). -/
theorem readOptional_absent {α : Type} (r : Reader α) (vs rest : List Byte) :
    readOptional vs.length r (0 :: (vs ++ rest)) = some (none, rest) := by
  simp [readOptional, readNat_byte, readBytes_append]

/-- A present optional argument. -/
theorem readOptional_present {α : Type} (w : Nat) (r : Reader α) (x : α) (bs rest : List Byte) (h : r bs = some (x, rest)) :
    readOptional w r (1 :: bs) = some (some x, rest) := by
  simp [readOptional, readNat_byte, h]

theorem argument_ok {α : Type} (pos : Nat) (r : Reader α) (bs rest : List Byte) (x : α) (h : r bs = some (x, rest)) :
    argument pos r bs = .ok (x, rest) := by
  simp [argument, h]

theorem oneArg_ok {α : Type} (r : Reader α) (bs rest : List Byte) (x : α) (h : r bs = some (x, rest)) :
    oneArg r bs = .ok x := by
  simp [oneArg, argument_ok 1 r bs rest x h]

theorem twoArgs_ok {α β : Type} (r : Reader α) (q : Reader β) (bs b1 b2 : List Byte) (x : α) (y : β)
    (h1 : r bs = some (x, b1)) (h2 : q b1 = some (y, b2)) : twoArgs r q bs = .ok (x, y) := by
  simp [twoArgs, argument_ok 1 r bs b1 x h1, argument_ok 2 q b1 b2 y h2, bind, Except.bind, pure, Except.pure]

theorem threeArgs_ok {α β γ : Type} (r : Reader α) (q : Reader β) (p : Reader γ) (bs b1 b2 b3 : List Byte) (x : α) (y : β)
    (z : γ) (h1 : r bs = some (x, b1)) (h2 : q b1 = some (y, b2)) (h3 : p b2 = some (z, b3)) :
    threeArgs r q p bs = .ok (x, y, z) := by
  simp [threeArgs, argument_ok 1 r bs b1 x h1, argument_ok 2 q b1 b2 y h2, argument_ok 3 p b2 b3 z h3, bind, Except.bind, pure,
    Except.pure]

end Sys2Proof.Machine
end

