-- ==== Sys2Proof/WellFormed.lean ====
section
/-! DEFINITION. Which commands are well formed. The types bound every operand but one: a delivered payload has 122 bytes (R203). -/

namespace Sys2Proof

/-- The check of each command's operands (R203: a payload is bytes 0 to 121). -/
def Instr.wellFormed : Instr → Bool
  | .cellDelivery payload => payload.length == Config.payloadBytes
  | .hardReset | .resetNRelease | .headerExamination _ _ | .cellClassification | .mediaAdmission
  | .captureHandoff | .assemblyDeadlineReached _ | .captureBindingUpdate | .syncLossCaptureAbandon
  | .syncLossResync | .commitDue | .slotDecision | .queueEmptyEvent | .slotDue _ | .tableCellPlacement
  | .conditionEvent _ | .lineCauseGone | .sessionExpiry | .completionNotice | .captureReadyNotice
  | .conditionNotice | .warmRestart | .coldRestart | .identify | .openSession | .closeSession | .ping
  | .status | .mapPut | .mapRemove | .mapClear | .mapCopy | .mapDefault | .mapRead | .commit
  | .commitCancel | .ctxArm | .ctxDisarm | .storeRead | .storeRelease | .slotDefine | .slotWrite
  | .slotPublish | .slotStart | .slotStop | .slotClear | .slotQuery | .pause | .resume | .condRead
  | .condAck | .countRead | .countClear | .configSet | .configGet | .tagsSet | .restart | .trefEdge
  | .unknownCommand => true

end Sys2Proof
end

