-- ==== Sys2Proof/Laws/PerInstr.lean ====
section
/-! SUPPORT. Family F, one lemma per constructor: a command is well formed exactly when the payload it delivers, if it delivers one, has 122 bytes (R203). -/

namespace Sys2Proof.Laws.F

/-- What `Instr.wellFormed` checks of a command. -/
def Statement (i : Instr) : Prop :=
  i.wellFormed = true ↔ ∀ payload, i = .cellDelivery payload → payload.length = 122

/-- A command that delivers no payload is well formed. -/
theorem of_other {i : Instr} (hi : i.wellFormed = true) (hn : ∀ payload, i ≠ .cellDelivery payload) : Statement i :=
  ⟨fun _ payload h => absurd h (hn payload), fun _ => hi⟩

theorem hardReset : Statement .hardReset := of_other rfl (fun _ h => nomatch h)

theorem resetNRelease : Statement .resetNRelease := of_other rfl (fun _ h => nomatch h)

theorem headerExamination (h : HeaderSample) (markerLt : Lt) : Statement (.headerExamination h markerLt) := of_other rfl (fun _ h => nomatch h)

theorem cellDelivery (payload : List RxByte) : Statement (.cellDelivery payload) := by
  simp [Statement, Instr.wellFormed, Config.payloadBytes]

theorem cellClassification : Statement .cellClassification := of_other rfl (fun _ h => nomatch h)

theorem mediaAdmission : Statement .mediaAdmission := of_other rfl (fun _ h => nomatch h)

theorem captureHandoff : Statement .captureHandoff := of_other rfl (fun _ h => nomatch h)

theorem assemblyDeadlineReached (ctx : Fin 8) : Statement (.assemblyDeadlineReached ctx) := of_other rfl (fun _ h => nomatch h)

theorem captureBindingUpdate : Statement .captureBindingUpdate := of_other rfl (fun _ h => nomatch h)

theorem syncLossCaptureAbandon : Statement .syncLossCaptureAbandon := of_other rfl (fun _ h => nomatch h)

theorem syncLossResync : Statement .syncLossResync := of_other rfl (fun _ h => nomatch h)

theorem commitDue : Statement .commitDue := of_other rfl (fun _ h => nomatch h)

theorem slotDecision : Statement .slotDecision := of_other rfl (fun _ h => nomatch h)

theorem queueEmptyEvent : Statement .queueEmptyEvent := of_other rfl (fun _ h => nomatch h)

theorem slotDue (slot : Fin 16) : Statement (.slotDue slot) := of_other rfl (fun _ h => nomatch h)

theorem tableCellPlacement : Statement .tableCellPlacement := of_other rfl (fun _ h => nomatch h)

theorem conditionEvent (kind : CondKind) : Statement (.conditionEvent kind) := of_other rfl (fun _ h => nomatch h)

theorem lineCauseGone : Statement .lineCauseGone := of_other rfl (fun _ h => nomatch h)

theorem sessionExpiry : Statement .sessionExpiry := of_other rfl (fun _ h => nomatch h)

theorem completionNotice : Statement .completionNotice := of_other rfl (fun _ h => nomatch h)

theorem captureReadyNotice : Statement .captureReadyNotice := of_other rfl (fun _ h => nomatch h)

theorem conditionNotice : Statement .conditionNotice := of_other rfl (fun _ h => nomatch h)

theorem warmRestart : Statement .warmRestart := of_other rfl (fun _ h => nomatch h)

theorem coldRestart : Statement .coldRestart := of_other rfl (fun _ h => nomatch h)

theorem identify : Statement .identify := of_other rfl (fun _ h => nomatch h)

theorem openSession : Statement .openSession := of_other rfl (fun _ h => nomatch h)

theorem closeSession : Statement .closeSession := of_other rfl (fun _ h => nomatch h)

theorem ping : Statement .ping := of_other rfl (fun _ h => nomatch h)

theorem status : Statement .status := of_other rfl (fun _ h => nomatch h)

theorem mapPut : Statement .mapPut := of_other rfl (fun _ h => nomatch h)

theorem mapRemove : Statement .mapRemove := of_other rfl (fun _ h => nomatch h)

theorem mapClear : Statement .mapClear := of_other rfl (fun _ h => nomatch h)

theorem mapCopy : Statement .mapCopy := of_other rfl (fun _ h => nomatch h)

theorem mapDefault : Statement .mapDefault := of_other rfl (fun _ h => nomatch h)

theorem mapRead : Statement .mapRead := of_other rfl (fun _ h => nomatch h)

theorem commit : Statement .commit := of_other rfl (fun _ h => nomatch h)

theorem commitCancel : Statement .commitCancel := of_other rfl (fun _ h => nomatch h)

theorem ctxArm : Statement .ctxArm := of_other rfl (fun _ h => nomatch h)

theorem ctxDisarm : Statement .ctxDisarm := of_other rfl (fun _ h => nomatch h)

theorem storeRead : Statement .storeRead := of_other rfl (fun _ h => nomatch h)

theorem storeRelease : Statement .storeRelease := of_other rfl (fun _ h => nomatch h)

theorem slotDefine : Statement .slotDefine := of_other rfl (fun _ h => nomatch h)

theorem slotWrite : Statement .slotWrite := of_other rfl (fun _ h => nomatch h)

theorem slotPublish : Statement .slotPublish := of_other rfl (fun _ h => nomatch h)

theorem slotStart : Statement .slotStart := of_other rfl (fun _ h => nomatch h)

theorem slotStop : Statement .slotStop := of_other rfl (fun _ h => nomatch h)

theorem slotClear : Statement .slotClear := of_other rfl (fun _ h => nomatch h)

theorem slotQuery : Statement .slotQuery := of_other rfl (fun _ h => nomatch h)

theorem pause : Statement .pause := of_other rfl (fun _ h => nomatch h)

theorem resume : Statement .resume := of_other rfl (fun _ h => nomatch h)

theorem condRead : Statement .condRead := of_other rfl (fun _ h => nomatch h)

theorem condAck : Statement .condAck := of_other rfl (fun _ h => nomatch h)

theorem countRead : Statement .countRead := of_other rfl (fun _ h => nomatch h)

theorem countClear : Statement .countClear := of_other rfl (fun _ h => nomatch h)

theorem configSet : Statement .configSet := of_other rfl (fun _ h => nomatch h)

theorem configGet : Statement .configGet := of_other rfl (fun _ h => nomatch h)

theorem tagsSet : Statement .tagsSet := of_other rfl (fun _ h => nomatch h)

theorem restart : Statement .restart := of_other rfl (fun _ h => nomatch h)

theorem trefEdge : Statement .trefEdge := of_other rfl (fun _ h => nomatch h)

theorem unknownCommand : Statement .unknownCommand := of_other rfl (fun _ h => nomatch h)

end Sys2Proof.Laws.F
end

