-- ==== Sys2Proof/Tests/Slice0.lean ====
section
/-! SUPPORT. The model's own tests: the WellFormed check, the manual's worked values, one step of each command, and for every statement with hypotheses states that meet them. -/

namespace Sys2Proof.Tests

set_option Elab.async false

open Sys2Proof.Machine Sys2Proof.Safety

/-! ## Helpers -/

/-- The state a step answers, if it answers one. -/
def next? : Host.Outcome State Fault Refusal → Option State
  | .next s => some s
  | .fault _ => none
  | .refused _ => none

/-- A counted byte without IERR. -/
def rx (b : Byte) : RxByte := ⟨b, false⟩

/-- Six counted bytes. -/
def six (b0 b1 b2 b3 b4 b5 : Byte) : HeaderSample := ⟨rx b0, rx b1, rx b2, rx b3, rx b4, rx b5⟩

/-- The filler header: valid. -/
def good : HeaderSample := six 0xD2 0 0 0 0 0x99

/-- An invalid header. -/
def bad : HeaderSample := six 0 0 0 0 0 0

/-- A cell on a tag. -/
def cellOn (tag : Tag) (seq : Seq) : Cell := buildCell tag seq false [1, 2, 3, 4, 5, 6, 7]

/-- The state with a delineation state. -/
def delineated (d : Delineation) : State := { State.reset with line := { State.reset.line with delin := d } }

/-- An entry of the map. -/
def entryOf (f : EntryFields) (t : Tracking) : Entry := ⟨f, t, EntryCounters.zero⟩

/-- A forwarding entry's fields. -/
def forward (tag : Tag) (out : Option Tag) : EntryFields :=
  ⟨tag, .forward, out, .renumber, false, .dropDamaged, .dropStale, none, none⟩

/-- A capturing entry's fields. -/
def capture (tag : Tag) (i : Fin 8) : EntryFields :=
  ⟨tag, .capture, none, .keep, false, .forwardDamaged, .dropStale, none, some i⟩

/-- A bank of entries. -/
def bankOf (es : List Entry) : Bank := ⟨es, .drop, ⟨0, 0, 0⟩⟩

/-- The state with an active and a shadow bank. -/
def mapped (active shadow : List Entry) : State :=
  { State.reset with map := ⟨bankOf active, bankOf shadow, .a, none⟩ }

/-- The open session of the tests: number 700, E = 30. -/
def session : Session := ⟨700, 30, 250000000, ⟨700, 29, 0x12, 0, ⟨.done, .none, []⟩⟩⟩

/-- A command cell: session 700, sequence 30. -/
def commandCell (code : Byte) (args : List Byte) : Cell := buildCell 4064 0 false ([0x02, 0xBC, 30, code, 0, 0] ++ args)

/-- The command that `commandCell` carries. -/
def commandOf (code : Byte) (args : List Byte) : Command := Command.ofCell (commandCell code args)

/-- The state with session 700 open and one command at the head of the Agent's queue. -/
def asking (s : State) (code : Byte) (args : List Byte) : State :=
  { s with agent := { s.agent with session := some session, cmdQueue := [commandCell code args] } }

/-- What a command was answered: the reply the session keeps after it. -/
def answerTo (i : Instr) (s : State) : Option Answer := ((next? (exec i s)).bind fun t => t.agent.session).map fun x => x.cache.answer

/-- A carousel slot: tag 800, type 66, version 7, interval 500 timer units. -/
def slotOf (run : SlotRun) (current : Option (List Byte)) (nextDue : Lt) : SlotData :=
  ⟨run, 800, 66, 7, 500, current, [], 0, false, false, nextDue, 30, 0, 0⟩

/-- The state with one slot, and an emission. -/
def carrying (i : Fin 16) (d : SlotData) (e : Option Emission) : State :=
  { State.reset with carousel := ⟨setAt State.reset.carousel.slots i (some d), [], e⟩ }

/-- The state with one capture context and what is handed to capture. -/
def capturing (i : Fin 8) (c : Context) (input : List CaptureItem) : State :=
  { State.reset with capture := { State.reset.capture with contexts := setAt State.reset.capture.contexts i c, input := input } }

/-- A context in a state, with the filter that passes everything. -/
def contextIn (st : ContextState) : Context := ⟨st, some ⟨none, .any⟩, none, some 3000, none, ⟨0, 0, 0, 0⟩⟩

/-- A hand-off to context 2. -/
def handing (seq : Seq) (u gap : Bool) (body : List Byte) : Handoff := ⟨2, buildCell 3000 seq u body, 3000, 900, gap⟩

/-- A media cell's descriptor. -/
def mediaOf (tag : Tag) (arrival : Lt) (stale : StalePolicy) : MediaCell := ⟨cellOn tag 0, tag, 0, false, 10000, stale, arrival⟩

/-- The state with the three queues, a filler slot under way. -/
def queued (m : List MgmtCell) (t : List TableCell) (d : List MediaCell) : State :=
  { State.reset with queues := ⟨m, t, d⟩, sched := { State.reset.sched with outSlot := some ⟨cellBytes fillerCell 0 0, none⟩ } }

/-- A management cell. -/
def mgmtOf (mark : Option RestartKind) : MgmtCell := ⟨cellOn 4065 0, 4065, 0, mark⟩

/-- A table cell. -/
def tableOf : TableCell := ⟨cellOn 800 0, 800, 0⟩

/-- A filed record. -/
def recordOf (owed : Bool) : Record := ⟨2, 3000, 66, 7, [1, 2, 3], 900, 1000, owed⟩

/-- The state with session 700 open. -/
def opened : State := { State.reset with agent := { State.reset.agent with session := some session } }

/-- The arguments of a command of the tests, as the command carries them. -/
theorem commandOf_args (code : Byte) (args : List Byte) (h : args.length ≤ 116) : (commandOf code args).args = args := by
  have e : (BitVec.ofNat 8 ([0x02, 0xBC, 30, code, 0, 0] ++ args).length).toNat = 6 + args.length := by simp; omega
  simp only [commandOf, Command.ofCell, commandCell, buildCell, e]
  rw [List.append_assoc, List.take_append, List.drop_append]
  simp

/-- A command of the tests is in sequence in session 700, on a state that may take it. -/
theorem asking_inSequence (s : State) (code : Byte) (args : List Byte) (hm : s.agent.mode = .serving) (hq : s.queues.mgmt = [])
    (hl : s.lt = 0) (hn : (asking s code args).noticeOwed = false) : InSequence (asking s code args) code (commandOf code args) [] session where
  serving := hm
  buffer := by simp [asking, hq]
  noNotice := .inl hn
  queued := ⟨commandCell code args, rfl, rfl⟩
  coded := rfl
  session := rfl
  alive := by simp only [asking, hl]; decide
  owner := by simp [commandOf, Command.ofCell, commandCell, buildCell, half, session]
  next := rfl

/-! ## Well-formedness -/

/-- The one check of WellFormed refuses a payload of 121 bytes and passes one of 122. -/
theorem test_wellFormed : Instr.wellFormed (.cellDelivery (List.replicate 121 (rx 0))) = false
    ∧ Instr.wellFormed (.cellDelivery (List.replicate 122 (rx 0))) = true ∧ Instr.wellFormed .slotDecision = true := by decide +kernel

/-- A word spells no command: the table gives no bits. -/
theorem test_noWord : decodeTableWord 16 0xFFFF = none := rfl

/-! ## The manual's values -/

/-- R204: the filler header's check, and the example header of R203. -/
theorem test_crc8 : crc8 [0xD2, 0, 0, 0, 0] = 0x99 ∧ (HeaderSample.header good).isSome = true
    ∧ headerBody ⟨501, true, false, false, 40, 122⟩ = [0xD2, 0x1F, 0x58, 0x28, 0x7A] := by decide +kernel

/-- R33's distance table. -/
theorem test_distances :
    ([(20, 21), (63, 0), (62, 1), (20, 25), (10, 9), (10, 10), (0, 63)] : List (Seq × Seq)).map
      (fun p => (p.2 - p.1 - 1).toNat) = [0, 0, 2, 4, 62, 63, 62] := by decide +kernel

/-- R35: the renumbered channel of the example, steps 3 and 9. -/
theorem test_renumber : trackCell (forward 210 (some 610)) ⟨.tracking 51, 2⟩ 54 = .accepted ⟨.tracking 54, 5⟩ 2 true 4
    ∧ trackCell (forward 210 (some 610)) ⟨.resync 57, 8⟩ 3 = .accepted ⟨.tracking 3, 10⟩ 0 true 9 := by decide +kernel

/-- R20's example, and its limit. -/
theorem test_dueAcrossWrap : reached 281474976700000 4000 = false ∧ reached 0 4000 = false ∧ reached 3999 4000 = false
    ∧ reached 4000 4000 = true ∧ reached 4001 4000 = true ∧ reached 1000 140737488356329 = true
    ∧ reached 1000 140737488356328 = false := by decide +kernel

/-- R75: the restamp across the wrap. -/
theorem test_restamp : (restampPayload [0xFF, 0xFF, 0xFF, 0xFF, 0xFD, 0x70, 1] (2344 - 281474976705000#48))
    = [0, 0, 0, 0, 0x1C, 0xB0, 1] := by decide +kernel

/-- R73: a residence equal to the limit is not stale. -/
theorem test_stale : (mediaOf 5 1989999 .dropStale).discarded 2000000 = true ∧ (mediaOf 5 1990000 .dropStale).discarded 2000000 = false
    ∧ (mediaOf 5 1989000 .sendStale).discarded 2000000 = false := by decide +kernel

/-- R110: the lateness example (interval 100 timer units, D = 21,000,000). -/
theorem test_lateness :
    let d : SlotData := { slotOf .running (some []) 21000000 with interval := 100 }
    d.elapsed 26200000 = 3 ∧ d.advanceDue 26200000 = 28500000 ∧ d.elapsed 23400000 = 1 ∧ d.elapsed 23500000 = 2
      ∧ d.advanceDue 23500000 = 26000000 := by decide +kernel

/-- R57: slots 1 and 9 of the example of eleven slots. -/
theorem test_elevenSlots :
    (decideSlot ⟨[], [tableOf], [mediaOf 1 0 .sendStale]⟩ 3 3 0).choice = .table tableOf
      ∧ (decideSlot ⟨[], [tableOf], [mediaOf 1 0 .sendStale]⟩ 0 3 0).choice = .media (mediaOf 1 0 .sendStale)
      ∧ (SlotChoice.filler).shareAfter 3 3 = 3 := by decide +kernel

/-- R77, R111: messages of 258, 244 and 8 bytes. -/
theorem test_cellCount : cellCount 258 = 3 ∧ cellCount 244 = 2 ∧ cellCount 8 = 1 := by decide +kernel

/-- R102: a pending image keeps its canonical form, and a zero byte written removes its pair. -/
theorem test_memory : Memory.writeAll [] 3 [7, 0, 9] = [(3, 7), (5, 9)] ∧ Memory.write [(3, 7), (5, 9)] 3 0 = [(5, 9)]
    ∧ Memory.readAll [(3, 7), (5, 9)] 2 4 = [0, 7, 0, 9] := by decide +kernel

/-! ## One step of the line -/

theorem test_hardReset : (next? (exec .hardReset { opened with lt := 5 })).map (fun t => (t.resetLow, t.lt, t.agent.session))
    = some (true, 0, none) := by decide +kernel

theorem test_resetNRelease : (next? (exec .resetNRelease { State.reset with resetLow := true })) = some State.reset := by decide +kernel

theorem test_trefEdge : (next? (exec .trefEdge { State.reset with lt := 281474976710655 })).map State.lt = some 0
    ∧ (next? (exec .trefEdge { State.reset with resetLow := true })).map State.lt = some 0 := by decide +kernel

theorem test_headerExamination :
    (next? (exec (.headerExamination good 0) (delineated (.confirm 1)))).map (fun t => (t.line.delin, t.line.nextPos)) = some (.confirm 2, 128)
      ∧ (next? (exec (.headerExamination bad 0) (delineated (.locked 4)))).map
          (fun t => (t.line.delin, t.line.nextPos, t.line.counters.syncLosses, t.classifier.input))
        = some (.hunt, 1, 1, [.syncLoss false]) := by decide +kernel

theorem test_cellDelivery :
    let s : State := { State.reset with line := { State.reset.line with delin := .locked 0, receiving := some ⟨⟨210, false, false, false, 13, 7⟩, false, 77⟩ } }
    (next? (exec (.cellDelivery (List.replicate 122 (rx 9))) s)).map
        (fun t => (t.line.receiving, t.line.counters.cellsDelivered, t.classifier.input))
      = some (none, 1, [.cell ⟨⟨210, false, false, false, 13, 7⟩, List.replicate 122 9⟩ 77]) := by decide +kernel

/-- R6, R34: a gap of two on a renumbered forwarding entry. -/
theorem test_cellClassification :
    let s : State := { mapped [entryOf (forward 210 (some 610)) ⟨.tracking 51, 2⟩] [] with
      classifier := { State.reset.classifier with input := [.cell (cellOn 210 54) 7] } }
    (next? (exec .cellClassification s)).map (fun t =>
        (t.classifier.offered, t.reports, t.map.bankA.entries.map fun e => (e.track, e.counters.gapCells, e.counters.matched)))
      = some ([⟨⟨cellOn 210 54, 610, 4, false, 10000, .dropStale, 7⟩, .a, some 210⟩], [.event .sequenceGaps],
          [(⟨.tracking 54, 5⟩, 2, 1)]) := by decide +kernel

theorem test_mediaAdmission :
    let s : State := { mapped [entryOf (forward 210 none) ⟨.unseen, 0⟩] [] with
      classifier := { State.reset.classifier with offered := [⟨mediaOf 210 7 .dropStale, .a, some 210⟩] } }
    (next? (exec .mediaAdmission s)).map (fun t => (t.queues.media.length, t.map.bankA.entries.map fun e => e.counters.queued))
      = some (1, [1]) := by decide +kernel

theorem test_queueEmptyEvent :
    let s : State := { opened with
      classifier := ⟨[], .pausing, [], 1⟩, agent := { opened.agent with longOp := .inFlight .pause 41 } }
    (next? (exec .queueEmptyEvent s)).map (fun t => (t.classifier.admission, t.agent.longOp))
      = some (.paused, .ended .pause 41 .done) := by decide +kernel

/-- R53, R59: the stale head remade into a table slot. -/
theorem test_slotDecision :
    let s : State := { queued [] [tableOf] [mediaOf 1 0 .dropStale] with
      lt := 10001, sched := { (queued [] [] []).sched with shareCount := 2 } }
    (next? (exec .slotDecision s)).map (fun t =>
        (t.queues.table, t.queues.media, t.sched.shareCount, t.classifier.queueEmpties, t.reports)) = some ([], [], 0, 1, [.event .staleDrops])
      ∧ (next? (exec .slotDecision s)).map (fun t => (t.sched.counters.tableSent, t.sched.counters.staleDropped)) = some (1, 1) := by decide +kernel

/-- R64, R132, R133: the first slot after a hard reset is filler with a reply queued, and OSTART marks its first byte. -/
theorem test_firstSlot :
    let s : State := { State.reset with queues := ⟨[mgmtOf none], [], []⟩ }
    (next? (exec .slotDecision s)).map (fun t => (t.queues.mgmt.length, t.sched.counters.fillerSent, t.outLines 0, t.outLines 6))
        = some (1, 1, ⟨0xD2, true⟩, ⟨0xFF, false⟩)
      ∧ s.outLines 0 = ⟨0, false⟩ := by decide +kernel

/-! ## One step of capture and carousel -/

theorem test_captureHandoff :
    (next? (exec .captureHandoff (capturing 2 (contextIn .armed) [.handoff (handing 10 true false ([66, 5, 0, 250] ++ List.replicate 118 1))]))).map
        (fun t => t.capture.contexts[2].state)
      = some (.assembling ⟨3000, 66, 5, 250, [66, 5, 0, 250] ++ List.replicate 118 1, 900, 12500000⟩) := by decide +kernel

theorem test_assemblyDeadlineReached :
    (next? (exec (.assemblyDeadlineReached 2) { capturing 2 (contextIn (.assembling ⟨3000, 66, 5, 250, [], 900, 1000⟩)) [] with lt := 1000 })).map
        (fun t => (t.capture.contexts[2].state, t.capture.contexts[2].lastLoss, t.reports))
      = some (.armed, some (.timeout, 1000), [.event .captureLoss]) := by decide +kernel

theorem test_captureBindingUpdate :
    (next? (exec .captureBindingUpdate
        (capturing 2 (contextIn (.assembling ⟨3000, 66, 5, 250, [], 900, 1000⟩)) [.bindings (Vector.replicate 8 none)]))).map
        (fun t => (t.capture.contexts[2].state, t.capture.contexts[2].binding, t.capture.contexts[2].lastLoss))
      = some (.armed, none, some (.unbound, 0)) := by decide +kernel

theorem test_syncLossCaptureAbandon :
    (next? (exec .syncLossCaptureAbandon (capturing 2 (contextIn (.assembling ⟨3000, 66, 5, 250, [], 900, 1000⟩)) [.syncLoss]))).map
        (fun t => (t.capture.contexts[2].state, t.capture.contexts[2].lastLoss, t.capture.input))
      = some (.armed, some (.line, 0), []) := by decide +kernel

theorem test_syncLossResync :
    let s : State := { mapped [entryOf (forward 210 none) ⟨.tracking 13, 8⟩] [entryOf (forward 9 none) ⟨.unseen, 0⟩] with
      classifier := { State.reset.classifier with input := [.syncLoss false] } }
    (next? (exec .syncLossResync s)).map (fun t =>
        (t.map.bankA.entries.map Entry.track, t.map.bankB.entries.map Entry.track, t.capture.input))
      = some ([⟨.resync 13, 8⟩], [⟨.unseen, 0⟩], [.syncLoss]) := by decide +kernel

/-- R22, R23: the swap of a pending commit, with the tracking inherited. -/
theorem test_commitDue :
    let s : State := { mapped [entryOf (forward 210 (some 610)) ⟨.tracking 13, 8⟩] [entryOf (forward 210 (some 610)) ⟨.unseen, 0⟩] with
      lt := 4000 }
    let s : State := { s with
      map := { s.map with pendingCommit := some ⟨4000, 41⟩ }, agent := { opened.agent with longOp := .inFlight .commit 41 } }
    (next? (exec .commitDue s)).map (fun t => (t.map.active, t.map.pendingCommit, t.map.bankB.entries.map Entry.track, t.agent.longOp))
      = some (.b, none, [⟨.tracking 13, 8⟩], .ended .commit 41 .done) := by decide +kernel

theorem test_slotDue :
    (next? (exec (.slotDue 4) { carrying 4 (slotOf .running (some [1, 2]) 40000000) none with lt := 40000000 })).map
        (fun t => (t.carousel.emission.map Emission.slot, t.carousel.slots[4].map SlotData.nextDue, t.carousel.due))
      = some (some 4, some 52500000, []) := by decide +kernel

theorem test_tableCellPlacement :
    (next? (exec .tableCellPlacement
        (carrying 4 (slotOf .stopping (some [1, 2]) 0) (some ⟨4, frameMessage 66 7 [1, 2], 0⟩)))).map
        (fun t => (t.queues.table.map TableCell.outSeq, t.carousel.emission, t.carousel.slots[4].map fun d => (d.run, d.outSeq, d.emissions)))
      = some ([30], none, some (.defined, 31, 1)) := by decide +kernel

/-! ## One step of the Agent -/

theorem test_conditionEvent :
    (next? (exec (.conditionEvent .staleDrops) { opened with reports := [.event .headerErrors, .event .staleDrops, .event .staleDrops] })).map
        (fun t => (t.agent.cond .staleDrops, t.reports))
      = some (⟨.raised, 1, some 0, true⟩, [.event .headerErrors, .event .staleDrops])
    ∧ (next? (exec (.conditionEvent .lineUnlocked) { opened with reports := [.event .headerErrors, .event .lineUnlocked] })).map State.reports
      = some [.event .headerErrors, .event .lineUnlocked] := by decide +kernel

theorem test_lineCauseGone :
    let s : State := { opened with reports := [.causeGone], agent := opened.agent.setCond .lineUnlocked ⟨.raised, 3, some 9, true⟩ }
    (next? (exec .lineCauseGone s)).map (fun t => (t.agent.cond .lineUnlocked, t.reports))
      = some (⟨.clear, 3, some 9, false⟩, []) := by decide +kernel

theorem test_sessionExpiry :
    (next? (exec .sessionExpiry { opened with lt := 250000000 })).map (fun t => t.agent.session) = some none
      ∧ (next? (exec .sessionExpiry { opened with lt := 249999999 })).map (fun t => t.agent.session) = some (some session) := by
  decide +kernel

theorem test_completionNotice :
    let s : State := { opened with agent := { opened.agent with longOp := .ended .commit 41 (.failed 210) } }
    (next? (exec .completionNotice s)).map (fun t =>
        (t.agent.longOp, t.agent.noticeNo, t.queues.mgmt.map fun c => c.cell.payload.take 12))
      = some (.none, 1, [[0x02, 0xBC, 2, 0, 1, 41, 0x27, 3, 10, 1, 0, 210]]) := by decide +kernel

theorem test_captureReadyNotice :
    let s : State := { opened with
      capture := { opened.capture with store := setAt opened.capture.store 1 (some (recordOf true)), filing := [1] } }
    (next? (exec .captureReadyNotice s)).map (fun t =>
        (t.capture.firstOwed, t.queues.mgmt.map fun c => c.cell.payload.take 13))
      = some (none, [[0x02, 0xBC, 2, 0, 2, 1, 2, 0x0B, 0xB8, 66, 7, 0, 3]]) := by decide +kernel

theorem test_conditionNotice :
    let s : State := { opened with agent := opened.agent.setCond .captureLoss ⟨.raised, 2, some 9, true⟩ }
    (next? (exec .conditionNotice s)).map (fun t =>
        (t.agent.cond .captureLoss, t.queues.mgmt.map fun c => c.cell.payload.take 17))
      = some (⟨.raised, 2, some 9, false⟩, [[0x02, 0xBC, 2, 0, 3, 5, 1, 0, 0, 0, 2, 0, 0, 0, 0, 0, 9]]) := by decide +kernel

theorem test_restartsTaken :
    let s (k : RestartKind) : State := { opened with sched := ⟨3, ⟨7, 0, 0, 0, 0, 0, 0⟩, some ⟨[], some k⟩⟩ }
    (next? (exec .warmRestart (s .warm))).map (fun t => (t.agent.session, t.sched.shareCount, t.sched.counters.managementSent)) = some (none, 8, 7)
      ∧ (next? (exec .coldRestart (s .cold))).map (fun t => (t.agent.session, t.sched.counters.managementSent)) = some (none, 0)
      ∧ (next? (exec .coldRestart (s .warm))) = some (s .warm) := by decide +kernel

/-! ## Session commands -/

/-- R175: IDENTIFY is answered with no session open, and leaves it closed. -/
theorem test_identify :
    let s : State := { State.reset with agent := { State.reset.agent with cmdQueue := [commandCell 0x11 []] } }
    (next? (exec .identify s)).map (fun t => (t.agent.session, t.queues.mgmt.map fun c => c.cell.payload.take 16))
      = some (none, [[0x02, 0xBC, 1, 30, 0x11, 0, 0, 1, 0, 0, 37, 0x00, 0xD1, 0x09, 0x6A, 1]]) := by decide +kernel

theorem test_open :
    let s : State := { State.reset with agent := { State.reset.agent with cmdQueue := [commandCell 0x12 []] } }
    (next? (exec .openSession s)).map (fun t => t.agent.session)
      = some (some ⟨700, 31, 250000000, ⟨700, 30, 0x12, 0, ⟨.done, .none, [31, 0, 0, 0x27, 0x10, 0]⟩⟩⟩) := by decide +kernel

theorem test_close : (next? (exec .closeSession (asking State.reset 0x13 []))).map (fun t => (t.agent.session, t.queues.mgmt.length))
    = some (none, 1) := by decide +kernel

theorem test_ping : answerTo .ping (asking { State.reset with lt := 258 } 0x14 []) = some ⟨.done, .none, [0, 0, 0, 0, 1, 2]⟩ := by
  decide +kernel

theorem test_status : (answerTo .status (asking State.reset 0x15 [])).map (fun a => (a.status, a.result.take 3, a.result.length))
    = some (.done, [1, 31, 0], 54) := by decide +kernel

/-- The refusals of one MAP_PUT (the example of 10_command_reference.md): attempts 1, 3 and the entry that is put. -/
theorem test_mapPut :
    answerTo .mapPut (asking State.reset 0x21 (entryImage ⟨4064, .drop, some 900, .keep, false, .forwardDamaged, .sendStale, none, none⟩))
        = some ⟨.refused, .badArgument, [3]⟩
      ∧ answerTo .mapPut (asking State.reset 0x21 (entryImage ⟨4064, .drop, none, .keep, false, .forwardDamaged, .sendStale, none, none⟩))
        = some ⟨.refused, .conflict, [4, 0x0F, 0xE0]⟩
      ∧ (next? (exec .mapPut (asking State.reset 0x21 (entryImage (forward 210 (some 610)))))).map (fun t => t.map.bankB.entries)
        = some [entryOf (forward 210 (some 610)) ⟨.unseen, 0⟩] := by decide +kernel

theorem test_mapRemove :
    answerTo .mapRemove (asking (mapped [] [entryOf (forward 210 none) ⟨.unseen, 0⟩]) 0x22 [0, 210]) = some ⟨.done, .none, [0, 0, 0, 0]⟩
      ∧ answerTo .mapRemove (asking State.reset 0x22 [0, 210]) = some ⟨.refused, .notFound, []⟩ := by decide +kernel

theorem test_mapClearAndCopy :
    (next? (exec .mapClear (asking (mapped [] [entryOf (forward 210 none) ⟨.unseen, 0⟩]) 0x23 []))).map (fun t => t.map.bankB.entries)
        = some []
      ∧ (next? (exec .mapCopy (asking (mapped [entryOf (forward 210 none) ⟨.tracking 5, 9⟩] []) 0x24 []))).map
          (fun t => t.map.bankB.entries) = some [entryOf (forward 210 none) ⟨.unseen, 0⟩] := by decide +kernel

theorem test_mapDefault : (next? (exec .mapDefault (asking State.reset 0x25 [1]))).map (fun t => (t.map.bankA.default, t.map.bankB.default))
    = some (.drop, .pass) ∧ answerTo .mapDefault (asking State.reset 0x25 [2]) = some ⟨.refused, .badArgument, [1]⟩ := by decide +kernel

theorem test_mapRead :
    (answerTo .mapRead (asking (mapped [entryOf (forward 210 none) ⟨.tracking 5, 9⟩] []) 0x26 [0, 0, 210])).map
      (fun a => (a.result.length, a.result.take 4, (a.result.drop 19).take 4)) = some (55, [0, 1, 0, 210], [1, 1, 5, 9]) := by decide +kernel

/-- R19, R185: a COMMIT on a free record, checked without the code that the manual leaves open. -/
theorem test_commit :
    (next? (exec .commit (asking (mapped [] [entryOf (forward 210 none) ⟨.unseen, 0⟩]) 0x27 [0, 0, 0, 0, 0, 0, 0]))).map
        (fun t => (t.map.active, t.agent.longOp, t.capture.input.length)) = some (.b, .ended .commit 30 .done, 1)
      ∧ (next? (exec .commit (asking State.reset 0x27 [1, 0, 0, 0, 0, 1, 0]))).map
        (fun t => (t.map.active, t.agent.longOp, t.map.pendingCommit)) = some (.a, .inFlight .commit 30, some ⟨256, 30⟩) := by decide +kernel

theorem test_commitCancel :
    answerTo .commitCancel (asking { opened with
        map := { opened.map with pendingCommit := some ⟨256, 9⟩ }, agent := { opened.agent with longOp := .inFlight .commit 9 } } 0x28 [])
      = some ⟨.done, .none, [9, 0, 0, 0, 0, 1, 0]⟩ := by decide +kernel

theorem test_ctxArm : answerTo .ctxArm (asking State.reset 0x31 [2, 1, 0, 1]) = some ⟨.done, .none, [0, 0, 0, 0, 0, 0]⟩
    ∧ (next? (exec .ctxArm (asking State.reset 0x31 [2, 0, 66, 0]))).map (fun t => (t.capture.contexts[2].state, t.capture.contexts[2].filter))
      = some (.armed, some ⟨some 66, .any⟩) := by decide +kernel

theorem test_ctxDisarm : answerTo .ctxDisarm (asking (capturing 2 (contextIn .armed) []) 0x32 [2]) = some ⟨.done, .none, [1]⟩ := by
  decide +kernel

/-- The state with record 1 filled. -/
def filed : State :=
  { State.reset with capture := { State.reset.capture with store := setAt State.reset.capture.store 1 (some (recordOf false)), filing := [1] } }

theorem test_storeRead : answerTo .storeRead (asking filed 0x33 [1, 0, 1]) = some ⟨.done, .none, [2, 3]⟩
    ∧ answerTo .storeRead (asking filed 0x33 [0, 0, 0]) = some ⟨.refused, .notFound, []⟩ := by decide +kernel

theorem test_storeRelease : (next? (exec .storeRelease (asking filed 0x34 [1]))).map (fun t => (t.capture.filing, t.capture.store[1]))
    = some ([], none) := by decide +kernel

theorem test_slotDefine : answerTo .slotDefine (asking State.reset 0x41 [4, 0x03, 0x20, 66, 7, 0x01, 0xF4]) = some ⟨.done, .none, [0, 1]⟩
    ∧ answerTo .slotDefine (asking State.reset 0x41 [4, 0x03, 0x20, 66, 32, 0x01, 0xF4]) = some ⟨.refused, .badArgument, [4]⟩ := by
  decide +kernel

theorem test_slotWrite :
    (next? (exec .slotWrite (asking (carrying 4 (slotOf .running none 0) none) 0x42 [4, 0, 3, 3, 7, 0, 9]))).map
        (fun t => t.carousel.slots[4].map SlotData.pendingBytes) = some (some [(3, 7), (5, 9)])
      ∧ answerTo .slotWrite (asking (carrying 4 (slotOf .running none 0) none) 0x42 [4, 0x07, 0xF6, 3, 7, 0, 9])
        = some ⟨.refused, .badArgument, [3]⟩ := by decide +kernel

theorem test_slotPublish : answerTo .slotPublish (asking (carrying 4 (slotOf .running none 0) none) 0x43 [4, 1, 4, 1])
    = some ⟨.done, .none, [0, 7]⟩ := by decide +kernel

theorem test_slotStart :
    (next? (exec .slotStart (asking (carrying 4 (slotOf .defined (some [1]) 0) none) 0x44 [4]))).map
        (fun t => (t.carousel.slots[4].map SlotData.run, t.carousel.emission.map Emission.slot)) = some (some .running, some 4)
      ∧ answerTo .slotStart (asking State.reset 0x44 [4]) = some ⟨.refused, .wrongState, [0, 1]⟩ := by decide +kernel

theorem test_slotStop :
    answerTo .slotStop (asking (carrying 4 (slotOf .running none 0) (some ⟨4, [], 0⟩)) 0x45 [4]) = some ⟨.done, .none, [2, 3]⟩
      ∧ answerTo .slotStop (asking (carrying 4 (slotOf .running none 0) none) 0x45 [4]) = some ⟨.done, .none, [2, 1]⟩ := by decide +kernel

theorem test_slotClear : answerTo .slotClear (asking (carrying 4 (slotOf .running none 0) none) 0x46 [4]) = some ⟨.refused, .wrongState, [2]⟩
    ∧ (next? (exec .slotClear (asking (carrying 4 (slotOf .defined none 0) none) 0x46 [4]))).map (fun t => t.carousel.slots[4]) = some none := by
  decide +kernel

theorem test_slotQuery : (answerTo .slotQuery (asking (carrying 4 (slotOf .running none 0) none) 0x47 [4])).map
    (fun a => (a.result.length, a.result.take 8)) = some (52, [2, 1, 0x03, 0x20, 1, 66, 1, 7]) := by decide +kernel

theorem test_pause : answerTo .pause (asking State.reset 0x51 []) = some ⟨.done, .none, [2, 0, 0]⟩
    ∧ answerTo .pause (asking (queued [] [] [mediaOf 1 0 .sendStale]) 0x51 []) = some ⟨.accepted, .none, [1, 0, 1]⟩ := by decide +kernel

theorem test_resume :
    (next? (exec .resume (asking { opened with
        classifier := ⟨[], .pausing, [], 0⟩, agent := { opened.agent with longOp := .inFlight .pause 9 } } 0x52 []))).map
      (fun t => (t.classifier.admission, t.agent.longOp)) = some (.forwarding, .ended .pause 9 .aborted) := by decide +kernel

theorem test_condRead : (answerTo .condRead (asking State.reset 0x61 [])).map (fun a => (a.result.length, a.result.take 14))
    = some (104, [1, 0, 0, 0, 0, 0, 0, 0, 0, 0, 0, 0, 0, 2]) := by decide +kernel

theorem test_condAck :
    answerTo .condAck (asking { opened with agent := opened.agent.setCond .captureLoss ⟨.raised, 2, some 9, false⟩ } 0x62 [5])
      = some ⟨.done, .none, [1, 0, 0, 0, 2, 1, 0, 0, 0, 0, 0, 9]⟩ := by decide +kernel

theorem test_countRead : (answerTo .countRead (asking State.reset 0x63 [7, 1])).map (fun a => a.result.length) = some 90
    ∧ (answerTo .countRead (asking State.reset 0x63 [6, 1])).map (fun a => a.result.length) = some 98
    ∧ answerTo .countRead (asking State.reset 0x63 [6, 2]) = some ⟨.refused, .badArgument, [2]⟩ := by decide +kernel

theorem test_countClear : (next? (exec .countClear (asking { opened with agent := { opened.agent with counters := ⟨9, 8, 7, 6⟩ } } 0x64 [8]))).map
    (fun t => t.agent.counters) = some ⟨1, 0, 0, 0⟩ := by decide +kernel

theorem test_configSet : (next? (exec .configSet (asking State.reset 0x71 [2, 0, 0, 0, 3]))).map
    (fun t => (t.agent.settings.tableShare, t.sched.shareCount)) = some (3, 3)
    ∧ answerTo .configSet (asking State.reset 0x71 [2, 0, 0, 0, 1]) = some ⟨.refused, .badArgument, [2]⟩ := by decide +kernel

theorem test_configGet : answerTo .configGet (asking State.reset 0x72 [2])
    = some ⟨.done, .none, [0, 0, 0, 8, 0, 0, 0, 2, 0, 0, 0, 64, 0, 0, 0, 8]⟩ := by decide +kernel

/-- R156: the reply to TAGS_SET goes out under the old reply tag. -/
theorem test_tagsSet : (next? (exec .tagsSet (asking State.reset 0x73 [0, 5, 0, 6]))).map
    (fun t => (t.agent.cmdTag, t.agent.replyTag, t.queues.mgmt.map MgmtCell.outTag)) = some (5, 6, [4065])
    ∧ answerTo .tagsSet (asking State.reset 0x73 [0, 5, 0, 5]) = some ⟨.refused, .conflict, [8, 0, 0]⟩ := by decide +kernel

theorem test_restart : (next? (exec .restart (asking State.reset 0x74 [2]))).map
    (fun t => (t.agent.mode, t.queues.mgmt.map MgmtCell.mark)) = some (.restarting, [some .cold])
    ∧ answerTo .restart (asking State.reset 0x74 [3]) = some ⟨.refused, .badArgument, [1]⟩ := by decide +kernel

theorem test_unknownCommand : answerTo .unknownCommand (asking State.reset 0x16 []) = some ⟨.refused, .unknownCommand, []⟩ := by decide +kernel

/-! ## States that meet the hypotheses of the statements

One theorem a statement, named after it. Where a statement has several clauses, each clause has its state, at a boundary of its range. -/

theorem test_meets_StepRunsFrontCommand : ({ State.reset with pending := [.trefEdge] } : State).pending = .trefEdge :: []
    ∧ State.reset.pending = [] := ⟨rfl, rfl⟩

theorem test_meets_TimeAndResetPin : State.reset.resetLow = false ∧ ({ State.reset with resetLow := true } : State).resetLow = true
    ∧ reached 0 1 = false ∧ reached (0 + 1) 1 = true ∧ reached 0 (BitVec.ofNat 48 (2 ^ 47)) = false := by decide +kernel

theorem test_meets_HeaderValidity : ValidHeader good ∧ OneByteOff (sampleBytes good) (sampleBytes (six 0xD2 0 0 0 0 0x98)) := by
  refine ⟨by unfold ValidHeader; decide +kernel, 5, by decide, by decide +kernel, fun j hj hn => ?_⟩
  interval_cases j <;> first | rfl | exact absurd rfl hn

theorem test_meets_HeaderRoundTrip : (⟨501, true, false, false, 40, 122⟩ : Header).len.toNat ≤ 122
    ∧ (readHeader 0xD2 0 0 0 0 0x99).isSome = true := by decide +kernel

theorem test_meets_CellOnTheLine : fillerCell.payload.length = 122 := by decide +kernel

/-- A body of any admitted length, in the state that holds its cells for context 2. -/
theorem test_meets_CaptureReadsBackEmission :
    let d := slotOf .running none 0
    let cells (body : List Byte) := messageCells d (frameMessage d.type d.version body)
    let s (body : List Byte) : State :=
      { capturing 2 (contextIn .armed) ((cells body).mapIdx fun n c => CaptureItem.handoff ⟨2, c, 3000, BitVec.ofNat 48 n, false⟩) with
        pending := List.replicate (cells body).length .captureHandoff }
    (List.replicate 2040 (0 : Byte)).length ≤ 2040
      ∧ ∀ body, (s body).capture.contexts[(2 : Fin 8)].state = .armed
        ∧ (s body).capture.contexts[(2 : Fin 8)].filter = some ⟨none, .any⟩
        ∧ (s body).capture.store[(0 : Fin 4)] = none ∧ (∀ q : Fin 4, q < 0 → (s body).capture.store[q].isSome = true)
        ∧ (s body).capture.input = ((cells body).mapIdx fun n c => CaptureItem.handoff ⟨2, c, 3000, BitVec.ofNat 48 n, false⟩) ++ []
        ∧ (s body).pending = List.replicate (cells body).length .captureHandoff ++ [] := by
  refine ⟨(List.length_replicate ..).le, fun body => ⟨rfl, rfl, rfl, fun q hq => absurd hq (by omega), ?_, ?_⟩⟩ <;> simp [capturing]

/-- The same run on a message of one cell: it is filed with its version and its body. -/
theorem test_captureReadsBack :
    let cells := messageCells (slotOf .running none 0) (frameMessage 66 7 [9, 8, 7])
    let s := { capturing 2 (contextIn .armed) (cells.mapIdx fun n c => CaptureItem.handoff ⟨2, c, 3000, BitVec.ofNat 48 n, false⟩) with
        pending := List.replicate cells.length .captureHandoff }
    cells.length = 1 ∧ (next? (Host.Core.run Sys2Proof.core 1 s)).map
        (fun t => (t.capture.store[0], t.capture.contexts[2].lastVersion))
      = some (some ⟨2, 3000, 66, 7, [9, 8, 7], 0, 0, false⟩, some 7) := by decide +kernel

/-- Entries at both ends of the stale limit's range, with every field present and with none. -/
theorem test_meets_EntryImageRoundTrip :
    EntryLegal ⟨1, .forwardCapture, some 4095, .renumber, true, .dropDamaged, .dropStale, some 2500000, some 7⟩
      ∧ EntryLegal ⟨4095, .drop, none, .keep, false, .forwardDamaged, .sendStale, some 250, none⟩ := by
  refine ⟨⟨by decide, ?_, ?_, rfl⟩, ⟨by decide, ?_, ?_, rfl⟩⟩ <;> intro t ht <;> cases ht <;> decide

/-- An entry with nothing optional, spelled with 9 in every byte that is not read. -/
theorem test_spellsEntry :
    SpellsEntry ⟨4095, .drop, none, .keep, false, .forwardDamaged, .sendStale, none, none⟩ [0x0F, 0xFF, 0, 0, 9, 9, 0, 0, 0, 0, 0, 9, 9, 9, 9, 0, 9]
      ∧ mapPutArgs [0x0F, 0xFF, 0, 0, 9, 9, 0, 0, 0, 0, 0, 9, 9, 9, 9, 0, 9]
        = .ok ⟨4095, .drop, none, .keep, false, .forwardDamaged, .sendStale, none, none⟩ :=
  ⟨⟨[0, 9, 9], [0, 9, 9, 9, 9], [0, 9], ⟨[9, 9], rfl, rfl⟩, ⟨[9, 9, 9, 9], rfl, rfl⟩, ⟨[9], rfl, rfl⟩, by decide +kernel⟩, by decide +kernel⟩

/-- The line at an LT, in HUNT with the last examination `ago` ticks ago. -/
def waited (lt examined : Lt) (ago : Nat) : State :=
  { State.reset with lt := lt, line := { State.reset.line with examinedLt := examined, examinedAgo := ago } }

/-- IVAL was low for a round of LT: the byte counted at LT 98, five ticks ago, is examined, though LT was 100 at the byte before (R119). -/
theorem test_examinedAfterARound :
    (next? (exec (.headerExamination good 98) (waited 103 100 (2 ^ 48 + 3)))).map
        (fun t => (t.line.delin, t.line.examinedLt, t.line.examinedAgo)) = some (.confirm 1, 98, 5)
      ∧ (next? (exec (.headerExamination good 104) (waited 103 100 3))).map (fun t => t.line.delin) = some .hunt := by decide +kernel

/-- An arrival LT at both ends of what the position's first byte can have, one in the future, and one after a round of LT. -/
theorem test_meets_HeaderExamined :
    CountedAt (waited 5 0 5) 0 5 ∧ CountedAt (waited 5 0 5) 5 0 ∧ CountedAt (waited 103 100 (2 ^ 48 + 3)) 98 5 ∧
    (¬ ∃ ago, CountedAt (waited 5 0 5) 6 ago) ∧
    ValidHeader good ∧ ¬ ValidHeader bad ∧ HeaderSample.header good = some ⟨0, false, false, false, 0, 0⟩
      ∧ ({ State.reset with resetLow := true } : State).resetLow = true
      ∧ ({ State.reset with line := { State.reset.line with receiving := some ⟨⟨1, false, false, false, 0, 0⟩, false, 0⟩ } } : State).line.receiving.isSome
        = true
      ∧ ∀ d ∈ [Delineation.hunt, .confirm 1, .confirm 2, .locked 0, .locked 3, .locked 4],
        (delineated d).line.delin = d ∧ (delineated d).resetLow = false ∧ (delineated d).line.receiving = none := by
  refine ⟨⟨rfl, by decide, by decide⟩, ⟨rfl, by decide, by decide⟩, ⟨by decide, by decide, by decide⟩, ?_,
    by unfold ValidHeader; decide +kernel, by unfold ValidHeader; decide +kernel, by decide +kernel, rfl, rfl, ?_⟩
  · rintro ⟨ago, h, hs, _⟩
    have h5 : ago ≤ 5 := hs
    have : ∀ n, n ≤ 5 → (5 : Lt) ≠ 6 + BitVec.ofNat 48 n := by decide
    exact this ago h5 h
  · intro d _
    exact ⟨rfl, rfl, rfl⟩

theorem test_meets_CellDelivered :
    (List.replicate 122 (rx 9)).length = 122 ∧ Damaged ⟨⟨1, false, false, true, 0, 0⟩, false, 0⟩ []
      ∧ Damaged ⟨⟨1, false, false, false, 0, 0⟩, true, 0⟩ [] ∧ Damaged ⟨⟨1, false, false, false, 0, 0⟩, false, 0⟩ [⟨9, true⟩]
      ∧ ¬ Damaged ⟨⟨1, false, false, false, 0, 0⟩, false, 0⟩ [rx 9] ∧ (0 : Tag) ≠ 1 := by
  simp [Damaged, rx]

/-- The state with one cell for the Classifier. -/
def arriving (s : State) (c : Cell) : State := { s with classifier := { s.classifier with input := [.cell c 7] } }

theorem test_meets_CommandCellIntercepted :
    (∀ s, (arriving s (commandCell 0x14 [])).classifier.input = .cell (commandCell 0x14 []) 7 :: [])
      ∧ (commandCell 0x14 []).hdr.tag = State.reset.agent.cmdTag
      ∧ (arriving { opened with agent := { opened.agent with mode := .restarting } } (commandCell 0x14 [])).agent.mode = .restarting
      ∧ State.reset.agent.mode = .serving ∧ (commandCell 0x14 []).hdr.f = false ∧ (commandCell 0x14 []).hdr.len.toNat = 6
      ∧ (buildCell 4064 0 false [1, 2, 3, 4, 5]).hdr.len.toNat = 5
      ∧ (arriving { opened with agent := { opened.agent with cmdQueue := List.replicate 4 fillerCell } } fillerCell).agent.cmdQueue.length = 4
      ∧ (arriving { opened with agent := { opened.agent with cmdQueue := List.replicate 3 fillerCell } } fillerCell).agent.cmdQueue.length = 3 := by
  refine ⟨fun _ => rfl, ?_⟩
  decide +kernel

/-- The distances 0, 62 and 63 of R33. -/
theorem test_meets_TrackerJudgement :
    (21 + 128 - 20 - 1) % 64 = 0 ∧ (9 + 128 - 10 - 1) % 64 = 62 ∧ (62 : Nat) ≠ 63 ∧ (10 + 128 - 10 - 1) % 64 = 63 := by decide

theorem test_meets_MatchedCellClassified :
    let e (t : Tracking) := entryOf (forward 210 (some 610)) t
    let s (t : Tracking) := arriving (mapped [e t] []) (cellOn 210 13)
    (∀ t, (s t).classifier.input = .cell (cellOn 210 13) 7 :: []) ∧ (∀ t, (cellOn 210 13).hdr.tag ≠ (s t).agent.cmdTag)
      ∧ (s ⟨.tracking 13, 8⟩).map.activeBank.find 210 = some (e ⟨.tracking 13, 8⟩)
      ∧ trackCell (e ⟨.tracking 13, 8⟩).fields ⟨.tracking 13, 8⟩ 13 = .duplicate
      ∧ (s ⟨.tracking 12, 8⟩).map.activeBank.find 210 = some (e ⟨.tracking 12, 8⟩)
      ∧ trackCell (e ⟨.tracking 12, 8⟩).fields ⟨.tracking 12, 8⟩ 13 = .accepted ⟨.tracking 13, 9⟩ 0 false 8 := by
  refine ⟨fun _ => rfl, fun _ => (by decide : (210 : Tag) ≠ 4064), ?_⟩
  decide +kernel

theorem test_meets_UnmappedCellClassified :
    let pass : State := { State.reset with map := { State.reset.map with bankA := { Bank.reset with default := .pass } } }
    (arriving State.reset (cellOn 9 0)).map.activeBank.find 9 = none ∧ (cellOn 9 0).hdr.tag ≠ State.reset.agent.cmdTag
      ∧ State.reset.map.activeBank.default = .drop ∧ pass.map.activeBank.default = .pass ∧ pass.map.activeBank.find 9 = none
      ∧ (cellOn 4065 0).hdr.tag ∈ outputTags pass ∧ (cellOn 9 0).hdr.tag ∉ outputTags pass := by decide +kernel

theorem test_meets_AdmissionAndDrain :
    let o : Offer := ⟨mediaOf 210 7 .dropStale, .a, some 210⟩
    let s (a : Admission) (n : Nat) : State :=
      { queued [] [] (List.replicate n (mediaOf 1 0 .sendStale)) with classifier := ⟨[], a, [o], 1⟩ }
    (s .paused 0).classifier.offered = o :: [] ∧ (s .paused 0).classifier.admission ≠ .forwarding
      ∧ (s .forwarding 480).classifier.admission = .forwarding ∧ (s .forwarding 480).queues.media.length = 480
      ∧ (s .forwarding 479).queues.media.length = 479
      ∧ (s .pausing 0).classifier.queueEmpties = 0 + 1 ∧ (s .pausing 0).queues.media = []
      ∧ (s .pausing 1).queues.media ≠ [] ∧ (s .forwarding 0).classifier.admission ≠ .pausing := by
  exact ⟨rfl, nofun, rfl, List.length_replicate .., List.length_replicate .., rfl, rfl, nofun, nofun⟩

theorem test_meets_SyncLossResyncs (b : Bool) :
    ({ State.reset with classifier := { State.reset.classifier with input := [.syncLoss b] } } : State).classifier.input
      = .syncLoss b :: [] := rfl

theorem test_meets_CommitFallsDue :
    let s (lt : Lt) (shadow : List Entry) : State :=
      { mapped [] shadow with
        lt := lt, map := { (mapped [] shadow).map with pendingCommit := some ⟨4000, 41⟩ }
        agent := { opened.agent with longOp := .inFlight .commit 41 } }
    (s 3999 []).map.pendingCommit = some ⟨4000, 41⟩ ∧ (s 3999 []).agent.longOp = .inFlight .commit 41 ∧ reached 3999 4000 = false
      ∧ reached 4000 4000 = true ∧ validate (s 4000 []) = none
      ∧ validate (s 4000 [entryOf (forward 4064 none) ⟨.unseen, 0⟩]) = some (.commandTag, 4064) := by decide +kernel

theorem test_meets_SwapInheritsAndBinds :
    let old := bankOf [entryOf (forward 210 (some 610)) ⟨.tracking 13, 8⟩]
    old.find 210 = some (entryOf (forward 210 (some 610)) ⟨.tracking 13, 8⟩) ∧ old.find 211 = none
      ∧ (forward 210 (some 611)).effectiveTag ≠ (forward 210 (some 610)).effectiveTag
      ∧ (namedContexts (bankOf [entryOf (capture 3000 2) ⟨.unseen, 0⟩, entryOf (capture 3001 3) ⟨.unseen, 0⟩])).Nodup := by decide +kernel

/-- A shadow bank with two offenders, and one with none. -/
theorem test_meets_ValidationNamesTheLowest :
    let two := mapped [] [entryOf (forward 5 (some 610)) ⟨.unseen, 0⟩, entryOf (forward 6 (some 610)) ⟨.unseen, 0⟩]
    BankLegal two.map.shadowBank ∧ validate two = some (.sharedOutputTag, 5)
      ∧ validationChecks = [.sharedOutputTag, .replyTag, .carouselTag] ++ .commandTag :: [.sharedContext] ∧ validate (mapped [] []) = none
      ∧ BankLegal (mapped [] []).map.shadowBank := by
  refine ⟨⟨by decide +kernel, ?_, by decide +kernel⟩, by decide +kernel, rfl, by decide +kernel, ⟨by decide +kernel, fun _ he => (List.not_mem_nil he).elim, by decide +kernel⟩⟩
  intro e he
  have he : e ∈ [entryOf (forward 5 (some 610)) ⟨.unseen, 0⟩, entryOf (forward 6 (some 610)) ⟨.unseen, 0⟩] := he
  simp only [List.mem_cons, List.not_mem_nil, or_false] at he
  rcases he with rfl | rfl <;> refine ⟨by decide, ?_, ?_, rfl⟩ <;> intro t ht <;> cases ht <;> decide

/-- A partial message of 258 bytes with 244 held, of tag 3000. -/
def partialOf (held : List Byte) : Partial := ⟨3000, 66, 5, 250, held, 900, 12500000⟩

theorem test_meets_HandoffTaken :
    let s (st : ContextState) (h : Handoff) := capturing 2 (contextIn st) [.handoff h]
    let start := handing 10 true false ([66, 5, 0, 250] ++ List.replicate 118 1)
    let middle := handing 11 false false (List.replicate 122 1)
    (∀ st h, (s st h).capture.input = .handoff h :: [] ∧ (s st h).capture.contexts[(2 : Fin 8)].state = st)
      ∧ start.context = 2 ∧ middle.context = 2 ∧ StartsMessage start ∧ ¬ StartsMessage middle ∧ SoundStart start
      ∧ (handing 10 true false [66, 5, 0]).cell.hdr.len.toNat = 3 ∧ StartsMessage (handing 10 true false [66, 5, 0])
      ∧ ((handing 10 true false [66, 32, 0, 250]).cell.payload.getD 1 0).toNat = 32
      ∧ declaredLength (handing 10 true false [66, 31, 7, 249]) = 2041
      ∧ declaredLength (handing 10 true false [66, 31, 7, 248]) = 2040
      ∧ (handing 11 false true []).gap = true ∧ (handing 11 true false []).cell.hdr.u = true
      ∧ TakesInto (s .armed start) start (startOf (s .armed start) start)
      ∧ TakesInto (s (.assembling (partialOf (List.replicate 122 1))) middle) middle (partialOf (List.replicate 122 1))
      ∧ stillToCome (partialOf (List.replicate 122 1)) = 136 ∧ stillToCome (partialOf (List.replicate 137 1)) = 121
      ∧ middle.cell.hdr.len.toNat = 122 ∧ (handing 11 false false (List.replicate 121 1)).cell.hdr.len.toNat = 121 := by
  have sound : SoundStart (handing 10 true false ([66, 5, 0, 250] ++ List.replicate 118 1)) := ⟨⟨rfl, rfl⟩, by decide +kernel⟩
  refine ⟨fun _ _ => ⟨rfl, rfl⟩, rfl, rfl, ⟨rfl, rfl⟩, nofun, sound, ?_, ⟨rfl, rfl⟩, ?_, ?_, ?_, rfl, rfl,
    .inl ⟨rfl, sound, rfl⟩, .inr ⟨rfl, rfl, rfl, rfl, rfl⟩, ?_, ?_, ?_, ?_⟩ <;> decide +kernel

/-- A last cell whose CRC holds (a message of 8 bytes in one cell), and one whose CRC fails. -/
theorem test_meets_CompleteMessageFate :
    let body := frameMessage 66 7 []
    let h := handing 10 true false body
    let s (f : Filter) (last : Option Version) :=
      capturing 2 { contextIn .armed with filter := some f, lastVersion := last } [.handoff h]
    (∀ f l, (s f l).capture.input = .handoff h :: [] ∧ (s f l).capture.contexts[h.context].filter = some f)
      ∧ (∀ f l, TakesInto (s f l) h (startOf (s f l) h)) ∧ h.cell.hdr.len.toNat = 8 ∧ (∀ f l, stillToCome (startOf (s f l) h) = 8 + declaredLength h) ∧ declaredLength h = 0
      ∧ beVal (body.drop 4) = (crc32 (body.take 4)).toNat
      ∧ beVal ([66, 7, 0, 0, 0, 0, 0, 0].drop 4) ≠ (crc32 [66, 7, 0, 0]).toNat
      ∧ ((⟨some 65, .any⟩ : Filter).type ≠ none ∧ (⟨some 65, .any⟩ : Filter).type ≠ some 66)
      ∧ ((⟨none, .changed⟩ : Filter).mode = .changed ∧ (s ⟨none, .changed⟩ (some 7)).capture.contexts[(2 : Fin 8)].lastVersion = some 7)
      ∧ (∀ r : Fin 4, (Vector.replicate 4 (some (recordOf false)))[r].isSome = true)
      ∧ (s ⟨none, .any⟩ none).capture.store[(0 : Fin 4)] = none := by
  refine ⟨fun _ _ => ⟨rfl, rfl⟩, fun f l => .inl ⟨rfl, ⟨⟨rfl, rfl⟩, ?_⟩, rfl⟩, ?_, fun _ _ => rfl, ?_, ?_, ?_, ⟨nofun, by decide⟩,
    ⟨rfl, rfl⟩, by decide, rfl⟩ <;> decide +kernel

theorem test_meets_LossesWithoutACell :
    let p : Partial := { partialOf [] with deadline := 1000 }
    let s (st : ContextState) (input : List CaptureItem) := capturing 2 (contextIn st) input
    (∀ st input, (s st input).capture.contexts[(2 : Fin 8)].state = st ∧ (s st input).capture.input = input)
      ∧ reached 1000 p.deadline = true ∧ reached 999 p.deadline = false
      ∧ (some p.source : Option Tag) ≠ (Vector.replicate 8 none)[(2 : Fin 8)]
      ∧ (s (.assembling p) [.syncLoss]).capture.input = .syncLoss :: []
      ∧ ({ s (.assembling p) [] with classifier := ⟨[.syncLoss false], .forwarding, [], 0⟩ } : State).classifier.input
        = .syncLoss false :: [] :=
  ⟨fun _ _ => ⟨rfl, rfl⟩, by decide +kernel, by decide +kernel, by decide, rfl, rfl⟩

theorem test_meets_SlotFallsDue :
    let s (d : SlotData) (e : Option Emission) (lt : Lt) : State := { carrying 4 d e with lt := lt }
    let image := slotOf .running (some []) 1000
    (∀ d e lt, (s d e lt).carousel.slots[(4 : Fin 16)] = some d ∧ (s d e lt).carousel.due = [] ∧ (s d e lt).carousel.emission = e)
      ∧ (slotOf .stopping none 0).run ≠ .running ∧ reached 999 image.nextDue = false ∧ reached 1000 image.nextDue = true
      ∧ HasImage image ∧ ¬ HasImage (slotOf .running none 1000) ∧ HasImage { slotOf .running none 1000 with published := true } := by
  refine ⟨fun _ _ _ => ⟨rfl, rfl, rfl⟩, by decide, by decide +kernel, by decide +kernel, .inl rfl, ?_, .inr rfl⟩
  simp [HasImage, slotOf]

theorem test_meets_NextDueIsFirstNotReached :
    reached 21000000 (slotOf .running none 21000000).nextDue = true ∧ ({ slotOf .running none 0 with interval := 10 }).interval = 10
      ∧ ({ slotOf .running none 0 with interval := 10000 }).interval = 10000 := by decide +kernel

theorem test_meets_LongestDueIsChosen :
    let d := slotOf .running (some [1]) 1000
    let s : State := { State.reset with lt := 2000, carousel := ⟨setAt (setAt State.reset.carousel.slots 5 (some d)) 9 (some d), [9, 5], none⟩ }
    s.carousel.emission = none ∧ s.carousel.due.Nodup ∧ (5 : Fin 16) ∈ s.carousel.due ∧ s.carousel.slots[(5 : Fin 16)] = some d ∧ HasImage d
      ∧ ¬ HasImage (slotOf .running none 1000)
      ∧ ∀ j ∈ s.carousel.due, s.carousel.age s.lt j < s.carousel.age s.lt 5 ∨ (s.carousel.age s.lt j = s.carousel.age s.lt 5 ∧ 5 ≤ j) := by
  refine ⟨rfl, by decide, by decide, rfl, .inl rfl, by simp [HasImage, slotOf], by decide +kernel⟩

/-- R109: the slot due longest has no image; its next due LT moves on and the other's emission starts. -/
theorem test_chooseAgain :
    let s : State := { State.reset with
      lt := 2000
      carousel := ⟨setAt (setAt State.reset.carousel.slots 5 (some (slotOf .running none 1000))) 9 (some (slotOf .running (some [1]) 1000)), [9, 5], none⟩ }
    (State.choose s).carousel.emission.map Emission.slot = some 9 ∧ (State.choose s).carousel.due = []
      ∧ (State.choose s).carousel.slots[(5 : Fin 16)] = some (slotOf .running none 12501000) := by decide +kernel

theorem test_meets_TableCellPlaced :
    let d := slotOf .running (some []) 0
    let e : Emission := ⟨4, List.replicate 123 0, 0⟩
    let s (n : Nat) : State := { carrying 4 d (some e) with queues := ⟨[], List.replicate n tableOf, []⟩ }
    (∀ n, (s n).carousel.emission = some e ∧ (s n).carousel.slots[e.slot] = some d ∧ (s n).carousel.due = [])
      ∧ (s 24).queues.table.length = 24 ∧ (s 23).queues.table.length = 23
      ∧ e.placed + 1 < cellCount e.message.length ∧ cellCount (List.replicate 122 (0 : Byte)).length ≤ 0 + 1 :=
  ⟨fun _ => ⟨rfl, rfl, rfl⟩, by decide +kernel, by decide +kernel, by decide +kernel, by decide +kernel⟩

theorem test_meets_SlotDecided :
    let fresh := mediaOf 1 0 .dropStale
    let s (q : State) (lt : Lt) : State := { q with lt := lt }
    State.reset.resetLow = false ∧ State.reset.sched.restartMark = none ∧ State.reset.sched.outSlot = none
      ∧ (∀ m t d, (queued m t d).sched.outSlot.isSome = true ∧ (queued m t d).sched.restartMark = none)
      ∧ (queued [mgmtOf none] [tableOf] []).queues.mgmt = mgmtOf none :: []
      ∧ TableTurn (queued [] [tableOf] []) ∧ TableTurn (queued [] [tableOf] [fresh])
      ∧ ¬ TableTurn { queued [] [tableOf] [fresh] with sched := { State.reset.sched with shareCount := 7 } }
      ∧ ¬ TableTurn (queued [] [] [fresh])
      ∧ ¬ StaleDiscard (s (queued [] [] [fresh]) 10000) fresh ∧ StaleDiscard (s (queued [] [] [fresh]) 10001) fresh
      ∧ ({ State.reset with sched := ⟨0, ⟨0, 0, 0, 0, 0, 0, 0⟩, some ⟨[], some .warm⟩⟩ } : State).sched.restartMark.isSome = true := by
  refine ⟨rfl, rfl, rfl, fun _ _ _ => ⟨rfl, rfl⟩, rfl, ?_, ?_, ?_, ?_, ?_, ?_, rfl⟩ <;> simp only [TableTurn, StaleDiscard] <;> decide +kernel

theorem test_meets_StaleHeadDiscarded :
    let s : State := { queued [] [] [mediaOf 1 0 .dropStale] with lt := 10001 }
    s.resetLow = false ∧ s.sched.restartMark = none ∧ s.sched.outSlot.isSome = true ∧ s.queues.mgmt = [] ∧ ¬ TableTurn s ∧ s.queues.media = mediaOf 1 0 .dropStale :: []
      ∧ StaleDiscard s (mediaOf 1 0 .dropStale) := by
  refine ⟨rfl, rfl, rfl, rfl, ?_, rfl, ?_⟩ <;> simp only [TableTurn, StaleDiscard] <;> decide +kernel

/-- A payload length of 6 is corrected, one of 5 is not. -/
theorem test_meets_StampCorrected :
    let m (n : Byte) : MediaCell := { mediaOf 1 0 .sendStale with restamp := true, cell := ⟨⟨1, false, true, false, 0, n⟩, []⟩ }
    ((m 6).restamp = true ∧ (m 6).cell.hdr.k = true ∧ 6 ≤ (m 6).cell.hdr.len.toNat) ∧ ¬ 6 ≤ (m 5).cell.hdr.len.toNat := by decide +kernel

theorem test_meets_OneSentCounterPerSlot : State.reset.resetLow = false ∧ State.reset.sched.restartMark = none
    ∧ State.reset.sched.counters.managementSent.toNat < 4294967295 ∧ (4294967294 : Counter).toNat < 4294967295 := by decide +kernel

theorem test_meets_AgentEventsTaken :
    let s (k : CondState) (rs : List Report) : State :=
      { opened with reports := rs, agent := opened.agent.setCond .lineUnlocked ⟨k, 1, none, false⟩ }
    (∀ k, NextReport (.event .staleDrops) [.event .headerErrors] [] (s k [.event .headerErrors, .event .staleDrops]))
      ∧ (∀ k, NextReport .causeGone [.event .staleDrops] [] (s k [.event .staleDrops, .causeGone]))
      ∧ (∀ k, ((s k []).agent.cond .lineUnlocked).state = k)
      ∧ State.reset.agent.session = none ∧ opened.agent.session = some session ∧ reached 250000000 session.deadline = true
      ∧ reached 249999999 session.deadline = false := by
  refine ⟨fun _ => ⟨rfl, by decide⟩, fun _ => ⟨rfl, by decide⟩, fun k => by cases k <;> decide +kernel, rfl, rfl, by decide +kernel, by decide +kernel⟩

theorem test_meets_NoticesBuilt :
    let full : State := { opened with queues := ⟨List.replicate 6 (mgmtOf none), [], []⟩ }
    let cap : State := { full with
      capture := { full.capture with store := setAt (setAt full.capture.store 0 (some (recordOf false))) 1 (some (recordOf true)), filing := [0, 1] } }
    let con : State := { full with agent := full.agent.setCond .captureLoss ⟨.raised, 2, some 9, true⟩ }
    MayNotice full session ∧ MayNotice cap session ∧ MayNotice con session
      ∧ ({ full with agent := { full.agent with longOp := .ended .pause 41 .done } } : State).agent.longOp = .ended .pause 41 .done
      ∧ cap.agent.longOp.isEnded = false ∧ cap.capture.filing = [0] ++ 1 :: []
      ∧ (∀ j ∈ ([0] : List (Fin 4)), ∀ y, cap.capture.store[j] = some y → y.noticeOwed = false)
      ∧ cap.capture.store[(1 : Fin 4)] = some (recordOf true) ∧ con.capture.firstOwed = none ∧ (con.agent.cond .captureLoss).noticeOwed = true
      ∧ ∀ j, kindIndex j < kindIndex .captureLoss → (con.agent.cond j).noticeOwed = false := by
  refine ⟨⟨rfl, rfl, by decide⟩, ⟨rfl, rfl, by decide⟩, ⟨rfl, rfl, by decide⟩, rfl, rfl, rfl, ?_, rfl, rfl, by decide +kernel, ?_⟩
  · intro j hj y hy
    rw [List.mem_singleton.mp hj] at hy
    cases hy
    rfl
  · intro j hj
    cases j <;> first | decide +kernel | exact absurd hj (by decide)

/-- A WARM mark in the slot under way, with RUNNING slots on both sides of the lowest that has an image, and a STOPPING one. -/
theorem test_meets_WarmRestartTaken :
    let slots := setAt (setAt (setAt (setAt State.reset.carousel.slots 2 (some (slotOf .running none 0))) 4 (some (slotOf .running (some [1]) 0))) 6
      (some (slotOf .stopping (some [1]) 0))) 9 (some (slotOf .running none 0))
    let s : State := { State.reset with sched := ⟨0, ⟨0, 0, 0, 0, 0, 0, 0⟩, some ⟨[], some .warm⟩⟩, lt := 7, carousel := ⟨slots, [], none⟩ }
    s.sched.restartMark = some .warm ∧ runningSlots s = [2, 4, 9] ∧ s.carousel.slots[(0 : Fin 16)] = none
      ∧ s.carousel.slots[(6 : Fin 16)] = some (slotOf .stopping (some [1]) 0) ∧ (slotOf .stopping (some [1]) 0).run ≠ .running
      ∧ s.carousel.slots[(4 : Fin 16)] = some (slotOf .running (some [1]) 0) ∧ HasImage (slotOf .running (some [1]) 0)
      ∧ (next? (exec .warmRestart s)).map (fun t => (t.carousel.emission.map Emission.slot, t.carousel.due, t.carousel.slots[2], t.carousel.slots[9]))
        = some (some 4, [9], some (slotOf .running none 12500007), some (slotOf .running none 7)) := by
  refine ⟨rfl, by decide +kernel, rfl, rfl, nofun, rfl, .inl rfl, by decide +kernel⟩

theorem test_meets_ColdRestartTaken :
    ({ State.reset with sched := ⟨0, ⟨0, 0, 0, 0, 0, 0, 0⟩, some ⟨[], some .cold⟩⟩ } : State).sched.restartMark = some .cold
      ∧ State.reset.sched.restartMark ≠ some .cold ∧ State.reset.sched.restartMark ≠ some .warm := by decide +kernel

/-- A command of session 700 whose session, sequence or time does not fit, in every clause of steps 1 to 3. -/
theorem test_meets_StepsOneToThree :
    let s (x : Option Session) (lt : Lt) : State := { asking State.reset 0x14 [] with lt := lt, agent := { (asking State.reset 0x14 []).agent with session := x } }
    let c := commandOf 0x14 []
    (∀ x lt, Takes (s x lt) 0x14 c []) ∧ (Instr.ping, (0x14 : Byte)) ∈ sessionCommands
      ∧ (0x16 : Byte) ∉ commandCodes
      ∧ reached 250000000 session.deadline = true ∧ reached 249999999 session.deadline = false
      ∧ c.session ≠ ({ session with number := 701 } : Session).number ∧ c.session = session.number
      ∧ c.seq = ({ session with expected := 31 } : Session).expected - 1
      ∧ c.seq ≠ ({ session with expected := 32 } : Session).expected ∧ c.seq ≠ ({ session with expected := 32 } : Session).expected - 1 := by
  refine ⟨fun _ _ => ⟨rfl, Nat.succ_pos 7, .inl rfl, ⟨_, rfl, rfl⟩, rfl⟩, by decide +kernel, ?_⟩
  decide +kernel

/-- Any session command of the tests on the reset state with session 700 open is in sequence. -/
theorem inSequence_reset (code : Byte) (args : List Byte) : InSequence (asking State.reset code args) code (commandOf code args) [] session :=
  asking_inSequence _ _ _ rfl rfl rfl rfl

/-- A failing argument of each kind: bytes missing, a tag of 0, a context past 7, an offset between 2040 and 65535, MAP_PUT's two constraints,
a code that is not assigned, SLOT_WRITE's constraint and its missing bytes, the entry group of COUNT_READ. -/
theorem test_meets_BadArgumentNamesTheFirst :
    (∀ code args, InSequence (asking State.reset code args) code (commandOf code args) [] session)
      ∧ (argumentTable.map fun row => row.2.1).Nodup ∧ argumentTable.length = 23
      ∧ firstBad [.number 2 1 4095] 1 [] [0] = some 1 ∧ firstBad [.number 2 1 4095] 1 [] [0, 0] = some 1
      ∧ firstBad [.number 1 0 7] 1 [] [8] = some 1
      ∧ firstBad mapPutArguments 1 [] [0, 9, 0, 1, 0, 5] = some 3 ∧ firstBad mapPutArguments 1 [] [0, 9, 4] = some 2
      ∧ firstBad mapPutArguments 1 [] [0, 9, 2, 0, 0, 5, 0, 0, 0, 0, 0, 0, 0, 0, 0, 0, 5] = some 9
      ∧ firstBad slotWriteArguments 1 [] [4, 7, 247, 2] = some 3 ∧ firstBad slotWriteArguments 1 [] [4, 0, 0, 2, 9] = some 4
      ∧ firstBad countReadArguments 1 [] [5] = some 1 ∧ firstBad countReadArguments 1 [] [7, 2] = some 2
      ∧ firstBad countReadArguments 1 [] [1] = none ∧ firstBad countClearArguments 1 [] [5, 1] = some 3
      ∧ firstBad configSetArguments 1 [] [2, 0, 0, 0, 65] = some 2 ∧ firstBad configSetArguments 1 [] [2, 0, 0, 0, 64] = none := by
  refine ⟨inSequence_reset, ?_⟩
  decide +kernel

/-- R188: an offset between 2040 and 65,535 is refused against argument 2. -/
theorem test_badOffset : answerTo .storeRead (asking filed 0x33 [1, 0x07, 0xF9]) = some ⟨.refused, .badArgument, [2]⟩
    ∧ answerTo .mapPut (asking State.reset 0x21 [0, 9, 0, 1, 0, 5, 0, 0, 0, 0, 0, 0, 0, 0, 0, 0, 0]) = some ⟨.refused, .badArgument, [3]⟩ := by
  decide +kernel

theorem test_meets_IdentifyAndOpen :
    let s (code : Byte) (x : Option Session) : State := { asking State.reset code [] with agent := { (asking State.reset code []).agent with session := x } }
    Takes (s 0x11 none) 0x11 (commandOf 0x11 []) [] ∧ Takes (s 0x12 none) 0x12 (commandOf 0x12 []) []
      ∧ Takes (s 0x12 (some session)) 0x12 (commandOf 0x12 []) []
      ∧ (commandOf 0x12 []).session = session.number ∧ (commandOf 0x12 []).session ≠ ({ session with number := 701 } : Session).number
      ∧ (commandOf 0x12 []).seq = ({ session with expected := 31 } : Session).expected - 1
      ∧ (commandOf 0x12 []).seq ≠ session.expected - 1 ∧ reached 0 session.deadline = false ∧ reached 250000000 session.deadline = true := by
  refine ⟨⟨rfl, by decide, .inl ?_, ⟨_, rfl, rfl⟩, rfl⟩, ⟨rfl, by decide, .inl ?_, ⟨_, rfl, rfl⟩, rfl⟩,
    ⟨rfl, by decide, .inl ?_, ⟨_, rfl, rfl⟩, rfl⟩, ?_⟩ <;> decide +kernel

theorem test_meets_ClosePingStatusUnknown :
    InSequence (asking State.reset 0x13 []) 0x13 (commandOf 0x13 []) [] session ∧ InSequence (asking State.reset 0x14 []) 0x14 (commandOf 0x14 []) [] session
      ∧ InSequence (asking State.reset 0x15 []) 0x15 (commandOf 0x15 []) [] session
      ∧ InSequence (asking State.reset 0x00 []) 0x00 (commandOf 0x00 []) [] session ∧ (0x00 : Byte) ∉ commandCodes :=
  ⟨inSequence_reset _ _, inSequence_reset _ _, inSequence_reset _ _, inSequence_reset _ _, by decide⟩

/-- The fields of the tests' forwarding entry are legal. -/
theorem forward_legal : EntryLegal (forward 210 (some 610)) :=
  ⟨by decide, fun t ht => by cases ht; decide, nofun, rfl⟩

/-- The state with a pending commit. -/
def committing (s : State) : State :=
  { s with map := { s.map with pendingCommit := some ⟨4000, 9⟩ }, agent := { s.agent with longOp := .inFlight .commit 9 } }

/-- A command of the tests is in sequence while a commit is pending. -/
theorem inSequence_committing (code : Byte) (args : List Byte) :
    InSequence (asking (committing State.reset) code args) code (commandOf code args) [] session :=
  asking_inSequence _ _ _ rfl rfl rfl rfl

/-- A state in which an offer waits for its admission. -/
def offering : State :=
  { State.reset with classifier := { State.reset.classifier with offered := [⟨mediaOf 210 7 .dropStale, .a, none⟩] } }

/-- Log 21: a map command is not taken while an offer waits. -/
theorem test_waits : next? (exec .mapClear (asking offering 0x23 [])) = some (asking offering 0x23 []) := by decide +kernel

/-- A bank of 255 and one of 256 entries stand for the two sides of MAP_FULL. -/
theorem test_meets_MapPutExecuted :
    let args := entryImage (forward 210 (some 610)) ++ [9]
    InSequence (asking State.reset 0x21 args) 0x21 (commandOf 0x21 args) [] session ∧ (commandOf 0x21 args).args = args
      ∧ InSequence (asking (committing State.reset) 0x21 args) 0x21 (commandOf 0x21 args) [] session
      ∧ (asking State.reset 0x21 args).classifier.offered = [] ∧ EntryLegal (forward 210 (some 610))
      ∧ SpellsEntry (forward 210 (some 610)) (entryImage (forward 210 (some 610)))
      ∧ InSequence (asking offering 0x21 args) 0x21 (commandOf 0x21 args) [] session ∧ offering.classifier.offered ≠ []
      ∧ (asking State.reset 0x21 args).map.pendingCommit = none ∧ (4064 : Tag) = State.reset.agent.cmdTag
      ∧ (forward 210 (some 610)).inputTag ≠ State.reset.agent.cmdTag
      ∧ (∀ n, (mapped [] (List.replicate n (entryOf (forward 5 none) ⟨.unseen, 0⟩))).map.shadowBank.entries.length = n)
      ∧ (mapped [] [entryOf (forward 5 none) ⟨.unseen, 0⟩]).map.shadowBank.find 210 = none
      ∧ [entryOf (forward 5 none) ⟨.unseen, 0⟩, entryOf (forward 6 none) ⟨.unseen, 0⟩].Pairwise
          (fun y z => y.fields.inputTag < z.fields.inputTag) :=
  ⟨inSequence_reset _ _, commandOf_args _ _ (by decide +kernel), inSequence_committing _ _, rfl, forward_legal,
    ⟨[1, 2, 98], [0, 0, 0, 0, 0], [0, 0], rfl, ⟨[0, 0, 0, 0], rfl, rfl⟩, ⟨[0], rfl, rfl⟩, by decide +kernel⟩,
    asking_inSequence _ _ _ rfl rfl rfl rfl, nofun, rfl, rfl, by decide,
    fun n => by simp [mapped, bankOf, MapStore.shadowBank, MapStore.bank, MapStore.shadowId, BankId.other], by decide +kernel, by decide +kernel⟩

theorem test_meets_ShadowEditsExecuted :
    let b := mapped [] [entryOf (forward 210 none) ⟨.unseen, 0⟩]
    (∀ code args, InSequence (asking State.reset code args) code (commandOf code args) [] session)
      ∧ (∀ code args, InSequence (asking offering code args) code (commandOf code args) [] session)
      ∧ (∀ code args, InSequence (asking (committing State.reset) code args) code (commandOf code args) [] session)
      ∧ InSequence (asking b 0x22 [0, 210]) 0x22 (commandOf 0x22 [0, 210]) [] session
      ∧ (commandOf 0x22 [0, 210]).args = beBytes 2 (210 : Tag).toNat ++ [] ∧ (b.map.shadowBank.find 210).isSome = true
      ∧ State.reset.map.shadowBank.find 210 = none ∧ (commandOf 0x25 [1]).args = DefaultAction.pass.toByte :: []
      ∧ (commandOf 0x25 [0]).args = DefaultAction.drop.toByte :: [] ∧ State.reset.classifier.offered = [] :=
  ⟨inSequence_reset, fun _ _ => asking_inSequence _ _ _ rfl rfl rfl rfl, inSequence_committing, asking_inSequence _ _ _ rfl rfl rfl rfl, by decide +kernel,
    by decide +kernel, rfl, by decide +kernel, by decide +kernel, rfl⟩

theorem test_meets_MapReadExecuted :
    let b := mapped [entryOf (forward 210 none) ⟨.tracking 5, 9⟩] []
    InSequence (asking b 0x26 [0, 0, 210]) 0x26 (commandOf 0x26 [0, 0, 210]) [] session
      ∧ (commandOf 0x26 [0, 0, 210]).args = BankId.a.toByte :: (beBytes 2 (210 : Tag).toNat ++ []) ∧ (210 : Tag) ≠ 0
      ∧ (b.map.bank .a).find 210 = some (entryOf (forward 210 none) ⟨.tracking 5, 9⟩) ∧ (b.map.bank .b).find 210 = none :=
  ⟨asking_inSequence _ _ _ rfl rfl rfl rfl, by decide +kernel, by decide, by decide +kernel, by decide +kernel⟩

theorem test_meets_CommitAndCancelExecuted :
    let bad := mapped [] [entryOf (forward 4064 none) ⟨.unseen, 0⟩]
    let ended (s : State) : State := { s with agent := { s.agent with longOp := .ended .pause 9 .done } }
    let now : List Byte := [0, 1, 2, 3, 4, 5, 6]
    (∀ code args, InSequence (asking State.reset code args) code (commandOf code args) [] session)
      ∧ (commandOf 0x27 now).args = 0 :: ([1, 2, 3, 4, 5, 6] ++ [])
      ∧ (commandOf 0x27 [1, 0, 0, 0, 0, 0, 1]).args = 1 :: (beBytes 6 (1 : Lt).toNat ++ []) ∧ reached 0 1 = false ∧ reached 0 0 = true
      ∧ InSequence (asking bad 0x27 now) 0x27 (commandOf 0x27 now) [] session ∧ validate (asking bad 0x27 now) = some (.commandTag, 4064)
      ∧ validate (asking State.reset 0x27 now) = none ∧ (asking State.reset 0x27 now).agent.longOp = .none
      ∧ (∀ code args, InSequence (asking (committing State.reset) code args) code (commandOf code args) [] session)
      ∧ (asking (committing State.reset) 0x28 []).map.pendingCommit = some ⟨4000, 9⟩
      ∧ (asking (committing State.reset) 0x28 []).agent.longOp = .inFlight .commit 9
      ∧ Takes { asking (ended State.reset) 0x28 [] with queues := ⟨List.replicate 7 (mgmtOf none), [], []⟩ } 0x28 (commandOf 0x28 []) [] :=
  ⟨inSequence_reset, by decide +kernel, by decide +kernel, by decide +kernel, by decide +kernel,
    asking_inSequence _ _ _ rfl rfl rfl rfl, by decide +kernel, by decide +kernel, rfl, inSequence_committing, rfl, rfl,
    ⟨rfl, by decide, .inr (by decide +kernel), ⟨_, rfl, rfl⟩, rfl⟩⟩

theorem test_meets_CaptureCommandsExecuted :
    let ctx (st : ContextState) := capturing 2 (contextIn st) []
    (∀ st code args, InSequence (asking (ctx st) code args) code (commandOf code args) [] session)
      ∧ (∀ st, (ctx st).capture.contexts[(2 : Fin 8)].state = st)
      ∧ (commandOf 0x31 [2, 1, 0, 1]).args = BitVec.ofNat 8 (2 : Fin 8).val :: ([1, 0] ++ VersionMode.changed.toByte :: [])
      ∧ (commandOf 0x31 [2, 0, 255, 0]).args = BitVec.ofNat 8 (2 : Fin 8).val :: ([0, 255] ++ VersionMode.any.toByte :: [])
      ∧ (∀ code args, InSequence (asking filed code args) code (commandOf code args) [] session)
      ∧ (commandOf 0x33 [1, 0xFF, 0xFF]).args = BitVec.ofNat 8 (1 : Fin 4).val :: (beBytes 2 65535 ++ [])
      ∧ (commandOf 0x33 [1, 0x07, 0xF8]).args = BitVec.ofNat 8 (1 : Fin 4).val :: (beBytes 2 2040 ++ [])
      ∧ filed.capture.store[(1 : Fin 4)] = some (recordOf false) ∧ filed.capture.store[(0 : Fin 4)] = none
      ∧ filed.capture.filing = [] ++ 1 :: [] ∧ (commandOf 0x34 [1]).args = BitVec.ofNat 8 (1 : Fin 4).val :: [] := by
  refine ⟨fun _ _ _ => asking_inSequence _ _ _ rfl rfl rfl rfl, fun _ => rfl, ?_, ?_,
    fun _ _ => asking_inSequence _ _ _ rfl rfl rfl rfl, ?_, ?_, rfl, rfl, rfl, ?_⟩ <;> decide +kernel

/-- A command of the tests is in sequence on a state with one slot. -/
theorem inSequence_carrying (d : SlotData) (e : Option Emission) (code : Byte) (args : List Byte) :
    InSequence (asking (carrying 4 d e) code args) code (commandOf code args) [] session :=
  asking_inSequence _ _ _ rfl rfl rfl rfl

/-- SLOT_DEFINE at both ends of the interval's range; a SLOT_WRITE that ends at byte 2040 and one that ends past it. -/
theorem test_meets_SlotLoadingExecuted :
    (∀ code args, InSequence (asking State.reset code args) code (commandOf code args) [] session)
      ∧ (∀ d e code args, InSequence (asking (carrying 4 d e) code args) code (commandOf code args) [] session)
      ∧ (∀ d e, (carrying 4 d e).carousel.slots[(4 : Fin 16)] = some d) ∧ State.reset.carousel.slots[(4 : Fin 16)] = none
      ∧ (commandOf 0x41 [4, 0x03, 0x20, 66, 31, 0, 10]).args = 4 :: (beBytes 2 (800 : Tag).toNat ++ 66 :: 31 :: (beBytes 2 10 ++ []))
      ∧ (commandOf 0x41 [4, 0x0F, 0xFF, 66, 31, 0x27, 0x10]).args = 4 :: (beBytes 2 (4095 : Tag).toNat ++ 66 :: 31 :: (beBytes 2 10000 ++ []))
      ∧ (commandOf 0x42 [4, 0x07, 0xF7, 1, 9]).args = 4 :: (beBytes 2 2039 ++ BitVec.ofNat 8 ([9] : List Byte).length :: ([9] ++ []))
      ∧ 2039 + ([9] : List Byte).length ≤ 2040 ∧ 2040 < 2039 + ([9, 9] : List Byte).length
      ∧ Memory.wf (slotOf .defined none 0).pendingBytes = true
      ∧ (commandOf 0x43 [4, 0x07, 0xF8, 1]).args = 4 :: (beBytes 2 2040 ++ 1 :: []) := by
  refine ⟨inSequence_reset, inSequence_carrying, fun _ _ => rfl, rfl, ?_⟩
  decide +kernel

theorem test_meets_SlotStartExecuted :
    let image := slotOf .defined (some [1]) 0
    let clash : State := { carrying 4 image none with map := ⟨bankOf [entryOf (forward 9 (some 800)) ⟨.unseen, 0⟩], bankOf [], .a, none⟩ }
    let taken : State := { carrying 4 image none with carousel :=
      ⟨setAt (carrying 4 image none).carousel.slots 7 (some (slotOf .running (some [1]) 0)), [], none⟩ }
    (∀ d e, InSequence (asking (carrying 4 d e) 0x44 [4]) 0x44 (commandOf 0x44 [4]) [] session)
      ∧ InSequence (asking clash 0x44 [4]) 0x44 (commandOf 0x44 [4]) [] session
      ∧ InSequence (asking taken 0x44 [4]) 0x44 (commandOf 0x44 [4]) [] session
      ∧ (commandOf 0x44 [4]).args = BitVec.ofNat 8 (4 : Fin 16).val :: [] ∧ HasImage image ∧ ¬ HasImage (slotOf .defined none 0)
      ∧ (outputTags (asking (carrying 4 image none) 0x44 [4])).Nodup ∧ image.outTag ∉ outputTags (asking (carrying 4 image none) 0x44 [4])
      ∧ (outputTags clash).Nodup ∧ (outputTags taken).Nodup ∧ ({ image with outTag := 4065 } : SlotData).outTag = State.reset.agent.replyTag
      ∧ (∀ e, (carrying 4 image e).carousel.due = [] ∧ (carrying 4 image e).carousel.emission = e) := by
  refine ⟨fun _ _ => inSequence_carrying _ _ _ _, asking_inSequence _ _ _ rfl rfl rfl rfl,
    asking_inSequence _ _ _ rfl rfl rfl rfl, by decide +kernel, .inl rfl, by simp [HasImage, slotOf], by decide +kernel,
    by decide +kernel, by decide +kernel, by decide +kernel, rfl, fun _ => ⟨rfl, rfl⟩⟩

theorem test_meets_SlotEndingExecuted :
    (∀ d e code, InSequence (asking (carrying 4 d e) code [4]) code (commandOf code [4]) [] session)
      ∧ (∀ code, InSequence (asking State.reset code [4]) code (commandOf code [4]) [] session)
      ∧ (∀ code, (commandOf code [4]).args = BitVec.ofNat 8 (4 : Fin 16).val :: [])
      ∧ (∀ d e, (carrying 4 d e).carousel.slots[(4 : Fin 16)] = some d ∧ (carrying 4 d e).carousel.emission = e)
      ∧ (∃ e, (some (⟨4, [], 0⟩ : Emission)) = some e ∧ e.slot = 4) ∧ (⟨5, [], 0⟩ : Emission).slot ≠ 4 :=
  ⟨fun _ _ _ => inSequence_carrying _ _ _ _, fun _ => inSequence_reset _ _, fun _ => commandOf_args _ _ (by simp), fun _ _ => ⟨rfl, rfl⟩,
    ⟨_, rfl, rfl⟩, by decide⟩

theorem test_meets_PauseAndResumeExecuted :
    let s (a : Admission) (l : LongOp) (m : List MediaCell) : State :=
      { State.reset with
        classifier := ⟨[], a, [], 0⟩, queues := ⟨[], [], m⟩
        agent := { State.reset.agent with longOp := l } }
    (∀ a m code, InSequence (asking (s a .none m) code []) code (commandOf code []) [] session)
      ∧ (∀ a m k q code, InSequence (asking (s a (.inFlight k q) m) code []) code (commandOf code []) [] session)
      ∧ Takes { asking (s .forwarding (.ended .commit 9 .done) []) 0x51 [] with queues := ⟨List.replicate 7 (mgmtOf none), [], []⟩ } 0x51
          (commandOf 0x51 []) []
      ∧ (∀ a l m, (s a l m).classifier.admission = a ∧ (s a l m).agent.longOp = l ∧ (s a l m).queues.media = m) :=
  ⟨fun _ _ _ => asking_inSequence _ _ _ rfl rfl rfl rfl,
    fun _ _ _ _ _ => asking_inSequence _ _ _ rfl rfl rfl rfl,
    ⟨rfl, by decide, .inr (by decide +kernel), ⟨_, rfl, rfl⟩, rfl⟩, fun _ _ _ => ⟨rfl, rfl, rfl⟩⟩

theorem test_meets_ConditionCommandsExecuted :
    let s (k : CondKind) (st : CondState) : State := { State.reset with agent := State.reset.agent.setCond k ⟨st, 2, some 9, false⟩ }
    InSequence (asking State.reset 0x61 []) 0x61 (commandOf 0x61 []) [] session
      ∧ (∀ k st, InSequence (asking (s k st) 0x62 [condCode k]) 0x62 (commandOf 0x62 [condCode k]) [] session)
      ∧ (∀ k, (commandOf 0x62 [condCode k]).args = condCode k :: []) ∧ ∀ k st, ((s k st).agent.cond k).state = st :=
  ⟨inSequence_reset _ _, fun k _ => asking_inSequence _ _ _ rfl rfl rfl (by cases k <;> rfl),
    fun _ => commandOf_args _ _ (by simp), fun k _ => by cases k <;> rfl⟩

theorem test_meets_CountReadExecuted : ∀ group part : Byte,
    InSequence (asking State.reset 0x63 [group, part]) 0x63 (commandOf 0x63 [group, part]) [] session
      ∧ (commandOf 0x63 [group, part]).args = group :: part :: []
      ∧ InSequence (asking State.reset 0x63 [group]) 0x63 (commandOf 0x63 [group]) [] session
      ∧ (commandOf 0x63 [group]).args = group :: [] :=
  fun _ _ => ⟨inSequence_reset _ _, commandOf_args _ _ (by simp), inSequence_reset _ _, commandOf_args _ _ (by simp)⟩

/-- R4, R198: unmapped_dropped comes first. -/
theorem test_countReadBank :
    let b : Bank := { Bank.reset with counters := { unmappedDropped := 3, unmappedForwarded := 2, collisionDrops := 1 } }
    answerTo .countRead (asking { State.reset with map := ⟨b, Bank.reset, .a, none⟩ } 0x63 [3, 0])
      = some ⟨.done, .none, [3, 0, 0, 0, 0, 3, 0, 0, 0, 2, 0, 0, 0, 1]⟩ := by decide +kernel

theorem test_meets_CountClearExecuted :
    let s := mapped [entryOf (forward 210 none) ⟨.unseen, 0⟩] []
    (∀ args, InSequence (asking s 0x64 args) 0x64 (commandOf 0x64 args) [] session)
      ∧ (∀ group : Byte, (commandOf 0x64 [group]).args = group :: [])
      ∧ (commandOf 0x64 [5, 0, 0, 210]).args = 5 :: BankId.a.toByte :: (beBytes 2 (210 : Tag).toNat ++ [])
      ∧ ((s.map.bank .a).find 210).isSome = true ∧ (s.map.bank .b).find 210 = none ∧ s.classifier.offered = [] :=
  ⟨fun _ => asking_inSequence _ _ _ rfl rfl rfl rfl, fun _ => commandOf_args _ _ (by simp), by decide +kernel,
    by decide +kernel, by decide +kernel, rfl⟩

/-- Every item at any value, and the values at the ends of the ranges. -/
theorem test_meets_ConfigurationExecuted :
    (∀ code args, InSequence (asking State.reset code args) code (commandOf code args) [] session)
      ∧ (∀ (item : Byte) (v : Nat), (commandOf 0x71 (item :: beBytes 4 v)).args = item :: (beBytes 4 v ++ []))
      ∧ (∀ item : Byte, (commandOf 0x72 [item]).args = item :: [])
      ∧ (250 ≤ 250 ∧ 250 ≤ 2500000 ∧ 249 < 250 ∧ 2500000 < 2500001 ∧ (2500001 : Nat) < 2 ^ 32) := by
  refine ⟨inSequence_reset, fun _ v => ?_, fun _ => commandOf_args _ _ (by simp), by decide⟩
  rw [List.append_nil]
  exact commandOf_args _ _ (by simp)

theorem test_meets_TagsSetAndRestartExecuted :
    let busy : State := { carrying 4 (slotOf .running none 0) none with
      map := ⟨bankOf [entryOf (forward 9 none) ⟨.unseen, 0⟩], bankOf [], .a, none⟩ }
    (∀ code args, InSequence (asking busy code args) code (commandOf code args) [] session)
      ∧ (∀ cmd reply : Tag, (commandOf 0x73 (beBytes 2 cmd.toNat ++ beBytes 2 reply.toNat)).args
          = beBytes 2 cmd.toNat ++ (beBytes 2 reply.toNat ++ []))
      ∧ busy.map.activeBank.find 9 = some (entryOf (forward 9 none) ⟨.unseen, 0⟩) ∧ busy.map.activeBank.find 5 = none
      ∧ (outputTags busy).Nodup ∧ (9 : Tag) ∈ outputTags busy ∧ (800 : Tag) ∈ outputTags busy ∧ (6 : Tag) ∉ outputTags busy
      ∧ (commandOf 0x74 [1]).args = RestartKind.warm.toByte :: [] ∧ (commandOf 0x74 [2]).args = RestartKind.cold.toByte :: [] := by
  refine ⟨fun _ _ => asking_inSequence _ _ _ rfl rfl rfl rfl, fun _ _ => ?_, ?_⟩
  · rw [List.append_nil]
    exact commandOf_args _ _ (by simp)
  · decide +kernel

/-! ## A busy state that meets the invariants, and takes a step -/

/-- Session 700 open with a scheduled commit in flight, one active forwarding entry, one slot in RUNNING whose emission is in progress,
context 2 assembling, record 1 filled, one cell in each queue, a cell in reception, TREF_EDGE pending. -/
def busy : State :=
  { committing opened with
    line := { State.reset.line with delin := .locked 0, receiving := some ⟨⟨210, false, false, false, 0, 122⟩, false, 0⟩ }
    map := ⟨bankOf [entryOf (forward 210 (some 610)) ⟨.unseen, 0⟩], bankOf [], .a, some ⟨4000, 9⟩⟩
    capture := ⟨setAt State.reset.capture.contexts 2 (contextIn (.assembling (partialOf [1]))), setAt State.reset.capture.store 1 (some (recordOf true)), [1], []⟩
    carousel := ⟨setAt State.reset.carousel.slots 4 (some (slotOf .running (some [1]) 0)), [], some ⟨4, frameMessage 66 7 [1], 0⟩⟩
    queues := ⟨[mgmtOf none], [tableOf], [mediaOf 610 0 .dropStale]⟩
    pending := [.trefEdge] }

theorem test_busySteps : (next? (step busy)).isSome = true := by decide +kernel

theorem test_meets_StepKeepsQueuesBounded : QueuesBounded busy := by unfold QueuesBounded; decide +kernel

theorem test_meets_StepKeepsTagLaws : TagLaws busy := by
  refine ⟨⟨by decide +kernel, ?_, by decide +kernel⟩, ⟨by decide +kernel, fun _ he => (List.not_mem_nil he).elim, by decide +kernel⟩, by decide +kernel, ?_, by decide +kernel⟩
  · intro e he
    rw [List.mem_singleton.mp he]
    exact forward_legal
  · intro e he
    rw [List.mem_singleton.mp he]
    decide

theorem test_meets_StepKeepsCaptureSound : CaptureSound busy := by
  refine ⟨fun i p hp => ?_, by decide +kernel, by decide +kernel, fun r x hx => ?_⟩
  · by_cases hi : i = 2
    · subst hi
      cases hp
      decide +kernel
    · rw [show busy.capture.contexts[i] = State.reset.capture.contexts[i] from setAt_other _ _ _ _ hi] at hp
      simp [State.reset, Capture.reset, Context.reset] at hp
  · by_cases hr : r = 1
    · subst hr
      cases hx
      decide +kernel
    · rw [show busy.capture.store[r] = State.reset.capture.store[r] from setAt_other _ _ _ _ hr] at hx
      simp [State.reset, Capture.reset] at hx

theorem test_meets_StepKeepsCarouselSound : CarouselSound busy := by
  have other : ∀ i : Fin 16, ∀ d, busy.carousel.slots[i] = some d → i = 4 ∧ d = slotOf .running (some [1]) 0 := by
    intro i d hd
    by_cases hi : i = 4
    · subst hi
      cases hd
      exact ⟨rfl, rfl⟩
    · rw [show busy.carousel.slots[i] = State.reset.carousel.slots[i] from setAt_other _ _ _ _ hi] at hd
      simp [State.reset, Carousel.reset] at hd
  refine ⟨fun i d hd => ?_, fun e he => ?_, fun i d hd hr => ?_, by decide +kernel, nofun, nofun⟩
  · rw [(other i d hd).2]
    refine ⟨by decide, by decide, by decide, rfl, nofun, by decide, fun body hb => ?_⟩
    cases hb
    decide
  · cases he
    exact ⟨by decide +kernel, _, rfl, rfl⟩
  · rw [(other i d hd).2] at hr
    cases hr

theorem test_meets_StepKeepsOperationsSound : OperationsSound busy := by
  refine ⟨fun q => ⟨fun ⟨p, hp, hq⟩ => ?_, fun h => ⟨_, rfl, ?_⟩⟩, nofun, nofun, nofun⟩
  · cases hp
    rw [← hq]
    rfl
  · cases h
    rfl

theorem test_meets_StepKeepsSmallRecords : DelineationSound busy ∧ ConditionsSound busy ∧ SettingsLegal busy ∧ RestartSound busy := by
  refine ⟨⟨nofun, fun m hm => ?_, fun r hr => ?_, by decide⟩, fun k => by cases k <;> decide +kernel, by unfold SettingsLegal; decide +kernel, rfl⟩
  · cases hm
    decide
  · cases hr
    exact ⟨rfl, by decide, rfl⟩

theorem test_meets_StepKeepsOutputSound : OutputSound busy := by
  refine ⟨?_, fun r hr => ?_, fun x hx => ?_, nofun⟩
  · unfold CellWhole
    decide +kernel
  · cases hr
    decide
  · cases hx
    decide

end Sys2Proof.Tests
end

section
/-! SUPPORT. What a step can do, once for every invariant: the outcomes of an execution, the states a session command can leave. -/

namespace Sys2Proof.Machine

/-! ### Outcomes -/

/-- Every next state that an outcome can be has a property. -/
def Ensures (P : State → Prop) (o : Host.Outcome State Fault Refusal) : Prop := ∀ t, o = .next t → P t

@[simp] theorem ensures_next (P : State → Prop) (t : State) : Ensures P (.next t) ↔ P t :=
  ⟨fun h => h t rfl, fun h _ e => by cases e; exact h⟩

theorem ensures_of_eq {P : State → Prop} {o : Host.Outcome State Fault Refusal} {t : State} (ho : o = .next t) (h : P t) : Ensures P o := by
  rw [ho]
  exact (ensures_next P t).mpr h

/-- An invariant that every command keeps, whatever waits behind it, every step keeps. -/
theorem step_ensures {P : State → Prop} {s : State} (hs : P s) (rest : ∀ is, P { s with pending := is })
    (h : ∀ i u, P u → Ensures P (exec i u)) : Ensures P (step s) := by
  unfold step
  split
  · simpa using hs
  · exact h _ _ (rest _)

/-! ### The Agent's step on a session command (R136, R140, R142 to R144) -/

theorem State.nextCommand_eq_some {s u : State} {c : Command} (h : s.nextCommand = some (c, u)) :
    ∃ rest, u = s.unqueued rest ∧ s.agent.mode = .serving ∧ s.queues.mgmt.length < Config.mgmtBuffers
      ∧ (s.noticeAllowed && s.noticeOwed) = false ∧ ∃ cell, s.agent.cmdQueue = cell :: rest ∧ c = Command.ofCell cell := by
  unfold State.nextCommand at h
  split_ifs at h with hc
  obtain ⟨hm, hb, hn⟩ := hc
  split at h
  · next cell rest hq =>
    cases h
    exact ⟨rest, rfl, hm, hb, hn, cell, hq, rfl⟩
  · cases h

/-- What the Agent's step on a session command can leave: nothing new, or, from the state `u` in which the command has left the queue and
an expired session has ended, the answer of steps 1 to 3, a repeat, a BAD_ARGUMENT refusal, or the executed request. -/
inductive CommandStep {α : Type} (s : State) (isCode : Byte → Bool) (r : Request α) : State → Prop
  | untaken : CommandStep s isCode r s
  | outside (c : Command) (v : State) (a : Answer) (taken : s.nextCommand = some (c, v)) (code : isCode c.code = true) :
      CommandStep s isCode r (v.endIfExpired.replyOutside c a)
  | repeated (c : Command) (v : State) (x : Session) (taken : s.nextCommand = some (c, v)) (code : isCode c.code = true)
      (session : v.endIfExpired.agent.session = some x) : CommandStep s isCode r (v.endIfExpired.answerRepeat x)
  | badArgument (c : Command) (v : State) (x : Session) (pos : Nat) (taken : s.nextCommand = some (c, v))
      (code : isCode c.code = true) (session : v.endIfExpired.agent.session = some x) (parsed : r.parse c.args = .error pos) :
      CommandStep s isCode r
        (v.endIfExpired.advanceExpected.settle c (Machine.badArgument pos) v.endIfExpired.agent.replyTag none)
  | executed (c : Command) (v : State) (x : Session) (y : α) (taken : s.nextCommand = some (c, v)) (code : isCode c.code = true)
      (session : v.endIfExpired.agent.session = some x) (parsed : r.parse c.args = .ok y) (ready : r.ready y v.endIfExpired = true) :
      CommandStep s isCode r (r.after ((r.act c y v.endIfExpired.advanceExpected).2.settle c
        (r.act c y v.endIfExpired.advanceExpected).1 v.endIfExpired.agent.replyTag (r.mark y)))

theorem State.sessionCommandOf_step {α : Type} (s : State) (isCode : Byte → Bool) (r : Request α) :
    CommandStep s isCode r (s.sessionCommandOf isCode r) := by
  unfold State.sessionCommandOf
  split
  · next c v hv =>
    split_ifs with hc
    · simp only [State.judge, State.judgeOutside]
      cases hs : v.endIfExpired.agent.session with
      | none => exact .outside c v _ hv hc
      | some x =>
        dsimp only
        by_cases hn : c.session ≠ x.number
        · rw [if_pos hn]
          exact .outside c v _ hv hc
        · rw [if_neg hn]
          by_cases hq : c.seq = x.expected
          · rw [if_pos hq]
            cases hp : r.parse c.args with
            | error pos => exact .badArgument c v x pos hv hc hs hp
            | ok y =>
              by_cases hy : r.ready y v.endIfExpired = true
              · simp only [hy, if_true]
                exact .executed c v x y hv hc hs hp hy
              · simp only [hy]
                exact .untaken
          · rw [if_neg hq]
            split_ifs
            · exact .repeated c v x hv hc hs
            · exact .outside c v _ hv hc
    · exact .untaken
  · exact .untaken

/-- An executed request, where `u` is the state with the request's own effect alone: what it leaves once the command has left the queue and
E is advanced (R144). -/
theorem State.sessionCommand_act {α : Type} {s u : State} {code : Byte} {c : Command} {rest : List Cell} {x : Session} {y : α} {a : Answer}
    (r : Request α) (h : Safety.InSequence s code c rest x) (hp : r.parse c.args = .ok y) (hr : r.ready y (s.unqueued rest) = true)
    (ha : r.act c y (s.taken rest x) = (a, u.taken rest x)) (hq : u.agent.replySeq = s.agent.replySeq) :
    s.sessionCommand code r = r.after (Safety.executed s u c rest x a (r.mark y)) :=
  State.sessionCommand_executed r h y hp hr a (u.taken rest x) ha rfl hq rfl

/-- What the Agent does around every command keeps a property. -/
structure AgentKeeps (P : State → Prop) : Prop where
  unqueued : ∀ s rest, P s → P (s.unqueued rest)
  endSession : ∀ s, P s → P s.endSession
  replyOutside : ∀ s c a, P s → P (s.replyOutside c a)
  answerRepeat : ∀ s x, s.agent.session = some x → P s → P (s.answerRepeat x)
  advanceExpected : ∀ s, P s → P s.advanceExpected
  settle : ∀ s c a tag mark, P s → P (s.settle c a tag mark)

/-- What a request does, made on an open session with the arguments it parses, keeps a property. -/
structure RequestKeeps {α : Type} (P : State → Prop) (r : Request α) : Prop where
  act : ∀ c y s, P s → s.agent.session.isSome = true → r.parse c.args = .ok y → P (r.act c y s).2
  after : ∀ s, P s → P (r.after s)

theorem AgentKeeps.endIfExpired {P : State → Prop} (hP : AgentKeeps P) {s : State} (h : P s) : P s.endIfExpired := by
  unfold State.endIfExpired
  split
  · split_ifs
    · exact hP.endSession s h
    · exact h
  · exact h

/-- The state in which a command is judged keeps the property. -/
theorem AgentKeeps.judged {P : State → Prop} (hP : AgentKeeps P) {s v : State} {c : Command} (h : P s)
    (hv : s.nextCommand = some (c, v)) : P v.endIfExpired := by
  obtain ⟨rest, rfl, -⟩ := State.nextCommand_eq_some hv
  exact hP.endIfExpired (hP.unqueued s rest h)

theorem AgentKeeps.commandStep {P : State → Prop} (hP : AgentKeeps P) {α : Type} {r : Request α} (hr : RequestKeeps P r)
    {s t : State} {isCode : Byte → Bool} (h : P s) (ht : CommandStep s isCode r t) : P t := by
  cases ht with
  | untaken => exact h
  | outside c v a hv => exact hP.replyOutside _ c a (hP.judged h hv)
  | repeated c v x hv _ hs => exact hP.answerRepeat _ x hs (hP.judged h hv)
  | badArgument c v x pos hv => exact hP.settle _ c _ _ _ (hP.advanceExpected _ (hP.judged h hv))
  | executed c v x y hv _ hs hp =>
    exact hr.after _ (hP.settle _ c _ _ _ (hr.act c y _ (hP.advanceExpected _ (hP.judged h hv)) (by simp [hs]) hp))

/-- A session command of one code keeps what the Agent and its request keep. -/
theorem AgentKeeps.sessionCommand {P : State → Prop} (hP : AgentKeeps P) {α : Type} {r : Request α} (hr : RequestKeeps P r)
    {s : State} (h : P s) (code : Byte) : Ensures P (.next (s.sessionCommand code r)) :=
  (ensures_next _ _).mpr (hP.commandStep hr h (s.sessionCommandOf_step _ r))

/-- IDENTIFY is answered outside the session (R146). -/
theorem AgentKeeps.identify {P : State → Prop} (hP : AgentKeeps P) {s : State} (h : P s) : Ensures P (execIdentify s) := by
  unfold execIdentify
  split
  · next c v hv =>
    obtain ⟨rest, rfl, -⟩ := State.nextCommand_eq_some hv
    split_ifs
    · exact (ensures_next _ _).mpr (hP.replyOutside _ c _ (hP.unqueued s rest h))
    · exact (ensures_next _ _).mpr h
  · exact (ensures_next _ _).mpr h

/-- OPEN is judged in a state that the Agent keeps; it is refused, repeated, or opens the session (R138, R139). -/
theorem AgentKeeps.openSession {P : State → Prop} (hP : AgentKeeps P) {s : State} (h : P s)
    (owed : ∀ u c, P u → P (u.oweAll.openReply c)) (resync : ∀ u x c, u.agent.session = some x → P u → P (u.openReply c)) :
    Ensures P (execOpen s) := by
  unfold execOpen
  split
  · next c v hv =>
    have hu := hP.judged h hv
    split_ifs
    · refine (ensures_next _ _).mpr ?_
      simp only [State.judgeOpen]
      split
      · exact owed _ c hu
      · next x hx =>
        split_ifs
        · exact hP.replyOutside _ c _ hu
        · exact hP.answerRepeat _ x hx hu
        · exact resync _ x c hx hu
    · exact (ensures_next _ _).mpr h
  · exact (ensures_next _ _).mpr h

end Sys2Proof.Machine
end

section
/-! SUPPORT. The tag map: what the operations on banks, the slots' output tags, the validation and the swap do to the laws of R1, R2, R9
and R10. -/

namespace Sys2Proof.Machine

open Sys2Proof.Safety

/-! ### The controller-set fields of a bank (R1, R2) -/

/-- The controller-set fields of a bank's entries, in their order. -/
def Bank.fields (b : Bank) : List EntryFields := b.entries.map Entry.fields

/-- A change of tracking records or counters leaves the fields. -/
@[simp] theorem Bank.fields_mapEntries (b : Bank) (f : Entry → Entry) (h : ∀ e, (f e).fields = e.fields) :
    (b.mapEntries f).fields = b.fields := by
  simp [Bank.fields, Bank.mapEntries, Function.comp_def, h]

@[simp] theorem Bank.fields_modify (b : Bank) (t : Tag) (f : Entry → Entry) (h : ∀ e, (f e).fields = e.fields) :
    (b.modify t f).fields = b.fields := by
  have hf : ∀ e : Entry, (if e.fields.inputTag = t then f e else e).fields = e.fields := fun e => by split_ifs <;> simp [h]
  simp [Bank.fields, Bank.modify, hf]

@[simp] theorem Bank.fields_countDropped (b : Bank) : b.countDropped.fields = b.fields := rfl
@[simp] theorem Bank.fields_countForwarded (b : Bank) : b.countForwarded.fields = b.fields := rfl
@[simp] theorem Bank.fields_countCollision (b : Bank) : b.countCollision.fields = b.fields := rfl
@[simp] theorem Bank.fields_clearCounters (b : Bank) : b.clearCounters.fields = b.fields := rfl
@[simp] theorem Bank.fields_resync (b : Bank) : b.resync.fields = b.fields := Bank.fields_mapEntries _ _ fun _ => rfl
@[simp] theorem Bank.fields_freshTracking (b : Bank) : b.freshTracking.fields = b.fields := Bank.fields_mapEntries _ _ fun _ => rfl

@[simp] theorem Bank.fields_countAdmission (b : Bank) (entry : Option Tag) (f : EntryCounters → EntryCounters) (g : Bank → Bank)
    (h : (g b).fields = b.fields) : (b.countAdmission entry f g).fields = b.fields := by
  cases entry with
  | none => exact h
  | some t => exact Bank.fields_modify _ _ _ fun _ => rfl

@[simp] theorem inheritTracking_fields (old : Bank) (e : Entry) : (inheritTracking old e).fields = e.fields := by
  unfold inheritTracking
  split
  · rfl
  · split_ifs <;> rfl

@[simp] theorem MapStore.fields_swapped (m : MapStore) : m.swapped.fields = m.shadowBank.fields :=
  Bank.fields_mapEntries _ _ (inheritTracking_fields _)

/-- A list of entry fields that a bank may hold: at most 256, legal, in strictly ascending input tag (R1, R2). -/
structure FieldsLegal (fs : List EntryFields) : Prop where
  ascending : fs.Pairwise fun f g => f.inputTag < g.inputTag
  legal : ∀ f ∈ fs, EntryLegal f
  few : fs.length ≤ 256

theorem bankLegal_iff (b : Bank) : BankLegal b ↔ FieldsLegal b.fields := by
  refine ⟨fun ⟨h1, h2, h3⟩ => ⟨?_, ?_, ?_⟩, fun ⟨h1, h2, h3⟩ => ⟨?_, ?_, ?_⟩⟩
  · exact (List.pairwise_map (R := fun f g : EntryFields => f.inputTag < g.inputTag)).mpr h1
  · simpa [Bank.fields] using h2
  · simpa [Bank.fields] using h3
  · exact (List.pairwise_map (R := fun f g : EntryFields => f.inputTag < g.inputTag)).mp h1
  · simpa [Bank.fields] using h2
  · simpa [Bank.fields] using h3

/-- Fewer fields of a legal list, in the same order, are legal. -/
theorem FieldsLegal.sublist {fs gs : List EntryFields} (h : FieldsLegal fs) (hs : gs.Sublist fs) : FieldsLegal gs :=
  ⟨h.ascending.sublist hs, fun f hf => h.legal f (hs.subset hf), hs.length_le.trans h.few⟩

/-- No two entries of a legal bank have one input tag. -/
theorem FieldsLegal.nodup {fs : List EntryFields} (h : FieldsLegal fs) : fs.Pairwise fun f g => f.inputTag ≠ g.inputTag :=
  h.ascending.imp fun hlt => by bv_omega

/-! ### Putting an entry (R13) -/

theorem mem_insertEntry (e : Entry) (es : List Entry) (hs : es.Pairwise fun y z => y.fields.inputTag < z.fields.inputTag) (y : Entry) :
    y ∈ insertEntry e es ↔ y = e ∨ (y ∈ es ∧ y.fields.inputTag ≠ e.fields.inputTag) := by
  induction es with
  | nil => simp [insertEntry]
  | cons x xs ih =>
    obtain ⟨hx, hxs⟩ := List.pairwise_cons.mp hs
    have above : e.fields.inputTag ≤ x.fields.inputTag → ∀ z ∈ xs, z.fields.inputTag ≠ e.fields.inputTag := fun hle z hz => by
      have := hx z hz
      bv_omega
    rw [insertEntry]
    split_ifs with hlt heq
    · have hall : ∀ z ∈ x :: xs, z.fields.inputTag ≠ e.fields.inputTag := List.forall_mem_cons.mpr ⟨by bv_omega, above (by bv_omega)⟩
      simp only [List.mem_cons (a := y) (b := e)]
      exact or_congr_right ⟨fun h => ⟨h, hall y h⟩, And.left⟩
    · simp only [List.mem_cons]
      refine or_congr_right ⟨fun h => ⟨.inr h, above (by bv_omega) y h⟩, ?_⟩
      rintro ⟨rfl | h, hne⟩
      · exact absurd heq.symm hne
      · exact h
    · simp only [List.mem_cons, ih hxs]
      constructor
      · rintro (rfl | rfl | ⟨h, hne⟩)
        · exact .inr ⟨.inl rfl, fun h => heq h.symm⟩
        · exact .inl rfl
        · exact .inr ⟨.inr h, hne⟩
      · rintro (rfl | ⟨rfl | h, hne⟩)
        · exact .inr (.inl rfl)
        · exact .inl rfl
        · exact .inr (.inr ⟨h, hne⟩)

theorem insertEntry_ascending (e : Entry) (es : List Entry) (hs : es.Pairwise fun y z => y.fields.inputTag < z.fields.inputTag) :
    (insertEntry e es).Pairwise fun y z => y.fields.inputTag < z.fields.inputTag := by
  induction es with
  | nil => simp [insertEntry]
  | cons x xs ih =>
    obtain ⟨hx, hxs⟩ := List.pairwise_cons.mp hs
    rw [insertEntry]
    split_ifs with hlt heq
    · exact List.pairwise_cons.mpr ⟨List.forall_mem_cons.mpr ⟨hlt, fun z hz => BitVec.lt_trans hlt (hx z hz)⟩, hs⟩
    · exact List.pairwise_cons.mpr ⟨fun z hz => heq ▸ hx z hz, hxs⟩
    · refine List.pairwise_cons.mpr ⟨fun z hz => ?_, ih hxs⟩
      rcases (mem_insertEntry e xs hxs z).mp hz with rfl | ⟨hz, -⟩
      · bv_omega
      · exact hx z hz

/-- Putting an entry adds one, unless it replaces one of its tag. -/
theorem length_insertEntry (e : Entry) (es : List Entry) (hs : es.Pairwise fun y z => y.fields.inputTag < z.fields.inputTag) :
    (insertEntry e es).length = if ∃ y ∈ es, y.fields.inputTag = e.fields.inputTag then es.length else es.length + 1 := by
  induction es with
  | nil => simp [insertEntry]
  | cons x xs ih =>
    obtain ⟨hx, hxs⟩ := List.pairwise_cons.mp hs
    rw [insertEntry]
    split_ifs with hlt hex heq hex hex
    · obtain ⟨y, hy, hye⟩ := hex
      rcases List.mem_cons.mp hy with rfl | hy
      · bv_omega
      · have := hx y hy
        bv_omega
    · rfl
    · rfl
    · exact absurd ⟨x, List.mem_cons_self .., heq.symm⟩ hex
    · obtain ⟨y, hy, hye⟩ := hex
      rcases List.mem_cons.mp hy with rfl | hy
      · exact absurd hye.symm heq
      · rw [List.length_cons, ih hxs, if_pos ⟨y, hy, hye⟩, List.length_cons]
    · rw [List.length_cons, ih hxs, if_neg fun ⟨y, hy, hye⟩ => hex ⟨y, List.mem_cons_of_mem _ hy, hye⟩, List.length_cons]

theorem Bank.find_isSome_iff (b : Bank) (t : Tag) : (b.find t).isSome = true ↔ ∃ e ∈ b.entries, e.fields.inputTag = t := by
  simp [Bank.find]

theorem Bank.find_some {b : Bank} {t : Tag} {e : Entry} (h : b.find t = some e) : e ∈ b.entries ∧ e.fields.inputTag = t :=
  ⟨List.mem_of_find?_eq_some h, by simpa using List.find?_some h⟩

/-- A bank with room for it keeps the laws of R1 and R2 with a legal entry put into it. -/
theorem FieldsLegal.insertEntry {b : Bank} (h : FieldsLegal b.fields) (e : Entry) (he : EntryLegal e.fields)
    (hroom : b.entries.length < 256 ∨ (b.find e.fields.inputTag).isSome = true) :
    FieldsLegal { b with entries := Machine.insertEntry e b.entries }.fields := by
  obtain ⟨ha, hl, hn⟩ := (bankLegal_iff b).mpr h
  refine (bankLegal_iff _).mp ⟨insertEntry_ascending e _ ha, fun y hy => ?_, ?_⟩
  · rcases (mem_insertEntry e _ ha y).mp hy with rfl | ⟨hy, -⟩
    · exact he
    · exact hl y hy
  · simp only [length_insertEntry e _ ha]
    rw [Bank.find_isSome_iff] at hroom
    split_ifs with hk
    · exact hn
    · exact hroom.resolve_right hk

/-! ### The slots' output tags (R99, R100) -/

/-- The output tag that a slot assigns: its own in RUNNING or STOPPING. -/
def slotTag (o : Option SlotData) : Option Tag := (o.filter fun d => d.run.assigns).map SlotData.outTag

theorem slotTag_eq_some (o : Option SlotData) (t : Tag) :
    slotTag o = some t ↔ ∃ d, o = some d ∧ d.run.assigns = true ∧ d.outTag = t := by
  simp [slotTag, Option.filter_eq_some_iff, and_assoc]

@[simp] theorem slotTag_none : slotTag none = none := rfl

theorem slotTag_some (d : SlotData) : slotTag (some d) = if d.run.assigns then some d.outTag else none := by
  cases h : d.run.assigns <;> simp [slotTag, h]

theorem Carousel.assigned_tags (c : Carousel) : c.assigned.map Prod.snd = slotNumbers.filterMap fun i => slotTag c.slots[i] := by
  simp only [Carousel.assigned, List.map_filterMap]
  refine congrArg (slotNumbers.filterMap ·) (funext fun i => ?_)
  split
  · next d hd =>
    rw [hd, slotTag_some]
    split_ifs <;> rfl
  · next hd =>
    rw [hd]
    rfl

theorem Carousel.mem_assigned_tags (c : Carousel) (t : Tag) : t ∈ c.assigned.map Prod.snd ↔ ∃ i : Fin 16, slotTag c.slots[i] = some t := by
  simp only [Carousel.assigned_tags, List.mem_filterMap]
  exact ⟨fun ⟨i, _, h⟩ => ⟨i, h⟩, fun ⟨i, h⟩ => ⟨i, mem_slotNumbers i, h⟩⟩

/-- A tag has a holder exactly where a slot assigns it. -/
theorem Carousel.holder_isSome_iff (c : Carousel) (t : Tag) :
    (c.holder t).isSome = true ↔ ∃ i : Fin 16, slotTag c.slots[i] = some t := by
  rw [← Carousel.mem_assigned_tags]
  simp [Carousel.holder]

theorem Carousel.holder_eq_none_iff (c : Carousel) (t : Tag) : c.holder t = none ↔ ∀ i : Fin 16, slotTag c.slots[i] ≠ some t := by
  rw [← Option.not_isSome_iff_eq_none, Carousel.holder_isSome_iff]
  exact not_exists

/-- No tag stands twice among the assigned ones exactly where no two slots assign one tag. -/
theorem Carousel.assigned_nodup_iff (c : Carousel) :
    (c.assigned.map Prod.snd).Nodup ↔ ∀ (i j : Fin 16) (t : Tag), slotTag c.slots[i] = some t → slotTag c.slots[j] = some t → i = j := by
  have hn : slotNumbers.Nodup := by decide
  rw [Carousel.assigned_tags]
  constructor
  · intro h i j t hi hj
    by_contra hij
    have : Std.Symm fun a b : Fin 16 => ∀ x, slotTag c.slots[a] = some x → ∀ y, slotTag c.slots[b] = some y → x ≠ y :=
      ⟨fun a b hab x hx y hy => (hab y hy x hx).symm⟩
    exact (List.pairwise_filterMap.mp h).forall (mem_slotNumbers i) (mem_slotNumbers j) hij t hi t hj rfl
  · intro h
    exact hn.filterMap fun i j t hi hj => h i j t hi hj

/-! ### The tag laws, part by part (R9, R10) -/

/-- The effective output tags of the forwarding entries. -/
def forwardTags (fs : List EntryFields) : List Tag := (fs.filter fun f => f.forwards).map EntryFields.effectiveTag

theorem mem_forwardTags (fs : List EntryFields) (t : Tag) : t ∈ forwardTags fs ↔ ∃ f ∈ fs, f.forwards = true ∧ f.effectiveTag = t := by
  simp [forwardTags, and_assoc]

/-- The laws of R9 and R10 over the active entries' fields, the two reserved tags and the tags that slots assign. -/
structure ActiveLaws (fs : List EntryFields) (cmd reply : Tag) (slots : Fin 16 → Option Tag) : Prop where
  outputs : (forwardTags fs).Nodup
  replyFree : reply ∉ forwardTags fs
  slotsFree : ∀ i t, slots i = some t → t ≠ reply ∧ t ∉ forwardTags fs
  slotsOne : ∀ i j t, slots i = some t → slots j = some t → i = j
  command : ∀ f ∈ fs, f.inputTag ≠ cmd
  contexts : ((fs.filter fun f => f.captures).map EntryFields.context).Nodup

theorem outputTags_eq (s : State) :
    outputTags s = forwardTags s.map.activeBank.fields ++ s.agent.replyTag :: s.carousel.assigned.map Prod.snd := by
  simp [outputTags, forwardTags, Bank.fields, List.filter_map, Function.comp_def]

theorem namedContexts_eq (b : Bank) : namedContexts b = (b.fields.filter fun f => f.captures).map EntryFields.context := by
  simp [namedContexts, Bank.fields, List.filter_map, Function.comp_def]

theorem tagLaws_iff (s : State) : TagLaws s ↔ FieldsLegal s.map.bankA.fields ∧ FieldsLegal s.map.bankB.fields
    ∧ ActiveLaws s.map.activeBank.fields s.agent.cmdTag s.agent.replyTag fun i => slotTag s.carousel.slots[i] := by
  have hcmd : (∀ e ∈ s.map.activeBank.entries, e.fields.inputTag ≠ s.agent.cmdTag)
      ↔ ∀ f ∈ s.map.activeBank.fields, f.inputTag ≠ s.agent.cmdTag := by simp [Bank.fields]
  rw [TagLaws, bankLegal_iff, bankLegal_iff, hcmd, namedContexts_eq, outputTags_eq, List.nodup_append, List.nodup_cons,
    Carousel.assigned_nodup_iff, Carousel.mem_assigned_tags]
  refine and_congr_right fun _ => and_congr_right fun _ => ⟨?_, ?_⟩
  · rintro ⟨⟨ho, ⟨hr, h1⟩, hd⟩, hc, hx⟩
    refine ⟨ho, fun h => hd _ h _ (List.mem_cons_self ..) rfl, fun i t ht => ⟨fun e => hr ⟨i, e ▸ ht⟩, fun h => ?_⟩, h1, hc, hx⟩
    exact hd t h t (List.mem_cons_of_mem _ ((Carousel.mem_assigned_tags _ _).mpr ⟨i, ht⟩)) rfl
  · rintro ⟨ho, hr, hs, h1, hc, hx⟩
    refine ⟨⟨ho, ⟨fun ⟨i, hi⟩ => (hs i _ hi).1 rfl, h1⟩, fun a ha b hb hab => ?_⟩, hc, hx⟩
    subst hab
    rcases List.mem_cons.mp hb with rfl | hb
    · exact hr ha
    · obtain ⟨i, hi⟩ := (Carousel.mem_assigned_tags _ _).mp hb
      exact (hs i _ hi).2 ha

end Sys2Proof.Machine
end

section
/-! PROOF. Commit validation (R18): O19, and what an entry inherits and binds (R22, R23): O18. -/

namespace Sys2Proof.Machine

open Sys2Proof.Safety

/-! ### Validation (R18) -/

section
open Classical

theorem find?_cons_decide {α : Type} (p : α → Prop) (a : α) (as : List α) :
    (a :: as).find? (fun x => decide (p x)) = if p a then some a else as.find? fun x => decide (p x) := by
  by_cases h : p a <;> simp [h]

/-- The check that validation names is the first of R18's table that the entry fails. -/
theorem offence_eq_find (s : State) (e : Entry) : offence s e = validationChecks.find? fun check => decide (FailsCheck s e check) := by
  have shared : (e.fields.forwards && (s.map.shadowBank.entries.filter fun x => x.fields.inputTag != e.fields.inputTag).any
      fun x => x.fields.forwards && x.fields.effectiveTag == e.fields.effectiveTag) = true ↔ FailsCheck s e .sharedOutputTag := by
    simp [FailsCheck]
  have reply : (e.fields.forwards && e.fields.effectiveTag == s.agent.replyTag) = true ↔ FailsCheck s e .replyTag := by
    simp [FailsCheck]
  have carousel : (e.fields.forwards && (s.carousel.holder e.fields.effectiveTag).isSome) = true ↔ FailsCheck s e .carouselTag := by
    simp only [FailsCheck, Bool.and_eq_true, Carousel.holder_isSome_iff, slotTag_eq_some]
  have command : (e.fields.inputTag == s.agent.cmdTag) = true ↔ FailsCheck s e .commandTag := by
    simp [FailsCheck]
  have context : (e.fields.captures && (s.map.shadowBank.entries.filter fun x => x.fields.inputTag != e.fields.inputTag).any
      fun x => x.fields.captures && x.fields.context == e.fields.context) = true ↔ FailsCheck s e .sharedContext := by
    simp [FailsCheck]
  simp only [offence, shared, reply, carousel, command, context, validationChecks, find?_cons_decide, List.find?_nil]

theorem offence_eq_none_iff (s : State) (e : Entry) : offence s e = none ↔ ¬ Offends s e := by
  simp [offence_eq_find, Offends]

theorem firstFailed_of_offence {s : State} {e : Entry} {check : ConflictCheck} (h : offence s e = some check) : FirstFailed s e check := by
  rw [offence_eq_find, List.find?_eq_some_iff_append] at h
  obtain ⟨hc, before, after, heq, hb⟩ := h
  exact ⟨before, after, heq, by simpa using hc, by simpa using hb⟩

end

/-- Validation passes exactly a bank without an offending entry. -/
theorem validate_eq_none_iff (s : State) : validate s = none ↔ ∀ e ∈ s.map.shadowBank.entries, ¬ Offends s e := by
  simp [validate, offence_eq_none_iff]

/-- What validation names: the first offending entry's input tag, and the check that entry fails first. -/
theorem validate_eq_some {s : State} {check : ConflictCheck} {tag : Tag} (h : validate s = some (check, tag)) :
    ∃ before e after, s.map.shadowBank.entries = before ++ e :: after ∧ e.fields.inputTag = tag ∧ FirstFailed s e check
      ∧ ∀ x ∈ before, ¬ Offends s x := by
  obtain ⟨before, e, after, heq, he, hb⟩ := List.findSome?_eq_some_iff.mp h
  obtain ⟨c, hc, hp⟩ := Option.map_eq_some_iff.mp he
  cases hp
  exact ⟨before, e, after, heq, rfl, firstFailed_of_offence hc, fun x hx => (offence_eq_none_iff s x).mp (by simpa using hb x hx)⟩

/-! ### Inheritance and bindings (R22, R23) -/

theorem inheritTracking_new {old : Bank} {e : Entry} (h : old.find e.fields.inputTag = none) : inheritTracking old e = e := by
  simp [inheritTracking, h]

theorem inheritTracking_renumbered {old : Bank} {e o : Entry} (h : old.find e.fields.inputTag = some o)
    (hr : o.fields.numbering = .renumber ∧ e.fields.numbering = .renumber ∧ o.fields.effectiveTag = e.fields.effectiveTag) :
    inheritTracking old e = { e with track := ⟨o.track.mode, o.track.nextOut⟩ } := by
  simp [inheritTracking, h, hr]

theorem inheritTracking_kept {old : Bank} {e o : Entry} (h : old.find e.fields.inputTag = some o)
    (hr : ¬ (o.fields.numbering = .renumber ∧ e.fields.numbering = .renumber ∧ o.fields.effectiveTag = e.fields.effectiveTag)) :
    inheritTracking old e = { e with track := ⟨o.track.mode, e.track.nextOut⟩ } := by
  simp [inheritTracking, h, hr]

/-- Context `i` is bound to the first capturing entry that names it. -/
theorem Bank.bindings_get (b : Bank) (i : Fin 8) : b.bindings[i] =
    (b.entries.find? fun e => e.fields.captures && e.fields.context == some i).map fun e => e.fields.inputTag := by
  fin_cases i <;> rfl

/-- Two capturing entries of a bank in which no context is named twice are one entry if they name one context. -/
theorem eq_of_namedContexts_nodup {b : Bank} (h : (namedContexts b).Nodup) {x y : Entry} (hx : x ∈ b.entries) (hy : y ∈ b.entries)
    (cx : x.fields.captures = true) (cy : y.fields.captures = true) (hxy : x.fields.context = y.fields.context) : x = y :=
  List.inj_on_of_nodup_map h (List.mem_filter.mpr ⟨hx, cx⟩) (List.mem_filter.mpr ⟨hy, cy⟩) hxy

theorem Bank.bindings_eq_some_iff {b : Bank} (h : (namedContexts b).Nodup) (i : Fin 8) (t : Tag) :
    b.bindings[i] = some t ↔ ∃ e ∈ b.entries, e.fields.captures = true ∧ e.fields.context = some i ∧ e.fields.inputTag = t := by
  rw [Bank.bindings_get, Option.map_eq_some_iff]
  constructor
  · rintro ⟨e, he, rfl⟩
    obtain ⟨hc, hi⟩ : e.fields.captures = true ∧ e.fields.context = some i := by simpa using List.find?_some he
    exact ⟨e, List.mem_of_find?_eq_some he, hc, hi, rfl⟩
  · rintro ⟨e, he, hc, hi, rfl⟩
    obtain ⟨x, hx⟩ : ∃ x, b.entries.find? (fun e => e.fields.captures && e.fields.context == some i) = some x :=
      Option.isSome_iff_exists.mp (List.find?_isSome.mpr ⟨e, he, by simp [hc, hi]⟩)
    obtain ⟨xc, xi⟩ : x.fields.captures = true ∧ x.fields.context = some i := by simpa using List.find?_some hx
    exact ⟨x, hx, by rw [eq_of_namedContexts_nodup h (List.mem_of_find?_eq_some hx) he xc hc (xi.trans hi.symm)]⟩

end Sys2Proof.Machine

namespace Sys2Proof.Proofs

open Sys2Proof.Machine Sys2Proof.Safety

/-- Settles O19: entries stand in ascending input tag, so the first offender found has the lowest. -/
theorem validationNamesTheLowest : Obligations.ValidationNamesTheLowest := by
  unfold Obligations.ValidationNamesTheLowest
  rintro s ⟨hasc, -, -⟩
  refine ⟨validate_eq_none_iff s, fun check tag h => ?_⟩
  obtain ⟨before, e, after, heq, htag, hfirst, hbefore⟩ := validate_eq_some h
  rw [heq] at hasc ⊢
  refine ⟨⟨e, by simp, htag, hfirst⟩, fun x hx hoff => ?_⟩
  rw [← htag]
  rcases List.mem_append.mp hx with hx | hx
  · exact absurd hoff (hbefore x hx)
  · rcases List.mem_cons.mp hx with rfl | hx
    · exact BitVec.le_refl _
    · have := (List.pairwise_cons.mp (List.pairwise_append.mp hasc).2.1).1 x hx
      bv_omega

/-- Settles O18: the three branches of the inheritance, and the uniqueness of the entry that names a context. -/
theorem swapInheritsAndBinds : Obligations.SwapInheritsAndBinds := by
  unfold Obligations.SwapInheritsAndBinds
  exact ⟨fun old e => ⟨inheritTracking_new, fun o ho => ⟨inheritTracking_renumbered ho, inheritTracking_kept ho⟩⟩,
    fun b i t h => Bank.bindings_eq_some_iff h i t⟩

end Sys2Proof.Proofs
end

section
/-! SUPPORT. Frames: which parts of the state each block's own step may touch, said once for every invariant. -/

namespace Sys2Proof.Machine

open Sys2Proof.Safety

/-! ### The Capture Engine (R78 to R92) -/

/-- Only the capture contexts and the condition reports have changed. -/
def ContextStep (s t : State) : Prop :=
  ∃ cs rs, t = { s with capture := { s.capture with contexts := cs }, reports := rs }

theorem ContextStep.refl (s : State) : ContextStep s s := ⟨_, _, rfl⟩

theorem ContextStep.trans {s t u : State} (h : ContextStep s t) (h' : ContextStep t u) : ContextStep s u := by
  obtain ⟨_, _, rfl⟩ := h
  obtain ⟨cs, rs, rfl⟩ := h'
  exact ⟨cs, rs, rfl⟩

theorem ContextStep.setContext (s : State) (i : Fin 8) (c : Context) : ContextStep s (s.setContext i c) := ⟨_, _, rfl⟩

theorem ContextStep.abandon (s : State) (i : Fin 8) (why : LossReason) : ContextStep s (s.abandon i why) := ⟨_, _, rfl⟩

theorem ContextStep.bindContext (s : State) (i : Fin 8) (b : Option Tag) : ContextStep s (s.bindContext i b) := by
  unfold State.bindContext
  split
  · split_ifs
    · exact .setContext s i _
    · exact (ContextStep.abandon s i _).trans (.setContext _ i _)
  · exact .setContext s i _
  · exact .setContext s i _

/-- A change of contexts made for one context after another is a change of contexts. -/
theorem ContextStep.foldl {f : State → Fin 8 → State} (hf : ∀ s i, ContextStep s (f s i)) (is : List (Fin 8)) (s : State) :
    ContextStep s (is.foldl f s) := by
  induction is generalizing s with
  | nil => exact .refl s
  | cons i is ih => exact (hf s i).trans (ih _)

theorem ContextStep.abandonAll (s : State) : ContextStep s s.abandonAll := by
  refine .foldl (fun s i => ?_) _ s
  split
  · exact .abandon s i _
  · exact .refl s
  · exact .refl s

/-- What the taking of a hand-off can leave: contexts and reports changed, or a message filed in a FREE record, owed exactly if a session
is open (R90, R92). -/
inductive HandoffStep (s : State) : State → Prop
  | contexts (t : State) (h : ContextStep s t) : HandoffStep s t
  | filed (r : Fin 4) (x : Record) (cs : Vector Context 8) (rs : List Report) (free : s.capture.store[r] = none)
      (owed : x.noticeOwed = s.agent.session.isSome) :
      HandoffStep s { s with capture := { s.capture with
        store := setAt s.capture.store r (some x), filing := s.capture.filing ++ [r], contexts := cs }, reports := rs }

theorem HandoffStep.after {s t u : State} (h : ContextStep s t) (h' : HandoffStep t u) : HandoffStep s u := by
  obtain ⟨cs, rs, rfl⟩ := h
  cases h' with
  | contexts u h' => exact .contexts u (ContextStep.trans ⟨cs, rs, rfl⟩ h')
  | filed r x cs' rs' free owed => exact .filed r x cs' rs' free owed

theorem HandoffStep.setContext (s : State) (i : Fin 8) (c : Context) : HandoffStep s (s.setContext i c) :=
  .contexts _ (.setContext s i c)

theorem HandoffStep.abandon (s : State) (i : Fin 8) (why : LossReason) : HandoffStep s (s.abandon i why) :=
  .contexts _ (.abandon s i why)

theorem Capture.freeRecord_free {c : Capture} {r : Fin 4} (h : c.freeRecord = some r) : c.store[r] = none := by
  simpa using List.find?_some h

theorem HandoffStep.fileMessage (s : State) (i : Fin 8) (p : Partial) : HandoffStep s (s.fileMessage i p) := by
  unfold State.fileMessage
  split
  · next r hr => exact .filed r _ _ _ (Capture.freeRecord_free hr) rfl
  · exact .contexts _ ⟨_, _, rfl⟩

theorem HandoffStep.completeMessage (s : State) (i : Fin 8) (p : Partial) : HandoffStep s (s.completeMessage i p) := by
  simp only [State.completeMessage]
  split_ifs
  · exact .abandon s i _
  · exact .setContext s i _
  · exact .setContext s i _
  · exact .fileMessage s i p

theorem HandoffStep.accountCell (s : State) (i : Fin 8) (p : Partial) (c : Cell) : HandoffStep s (s.accountCell i p c) := by
  simp only [State.accountCell]
  split_ifs
  · exact .completeMessage s i _
  · exact .abandon s i _
  · exact .setContext s i _
  · exact .abandon s i _

theorem HandoffStep.takeStart (s : State) (h : Handoff) : HandoffStep s (s.takeStart h) := by
  simp only [State.takeStart]
  split_ifs
  · exact .abandon s _ _
  · exact .abandon s _ _
  · exact .abandon s _ _
  · exact .accountCell s _ _ _
  · exact .contexts _ (.refl s)

theorem HandoffStep.takeHandoff (s : State) (h : Handoff) : HandoffStep s (s.takeHandoff h) := by
  unfold State.takeHandoff
  split
  · exact .contexts _ (.refl s)
  · exact .takeStart s h
  · split
    · exact (HandoffStep.takeStart _ h).after (.abandon s _ _)
    · exact .accountCell s _ _ _

/-- CAPTURE_HANDOFF takes the next item off the list, then the hand-off. -/
theorem execCaptureHandoff_step (s : State) :
    ∃ input t, execCaptureHandoff s = .next t ∧ HandoffStep { s with capture := { s.capture with input := input } } t := by
  unfold execCaptureHandoff
  split
  · exact ⟨_, _, rfl, .takeHandoff _ _⟩
  · exact ⟨s.capture.input, s, rfl, .contexts _ (.refl s)⟩

theorem execAssemblyDeadlineReached_step (i : Fin 8) (s : State) :
    ∃ t, execAssemblyDeadlineReached i s = .next t ∧ ContextStep s t := by
  unfold execAssemblyDeadlineReached
  split
  · split_ifs
    · exact ⟨_, rfl, .abandon s i _⟩
    · exact ⟨_, rfl, .refl s⟩
  · exact ⟨_, rfl, .refl s⟩
  · exact ⟨_, rfl, .refl s⟩

theorem execCaptureBindingUpdate_step (s : State) :
    ∃ input t, execCaptureBindingUpdate s = .next t ∧ ContextStep { s with capture := { s.capture with input := input } } t := by
  unfold execCaptureBindingUpdate
  split
  · exact ⟨_, _, rfl, .foldl (fun s i => .bindContext s i _) _ _⟩
  · exact ⟨s.capture.input, s, rfl, .refl s⟩

theorem execSyncLossCaptureAbandon_step (s : State) : ∃ input items t, execSyncLossCaptureAbandon s = .next t
    ∧ ContextStep { s with capture := { s.capture with input := input }, classifier := { s.classifier with input := items } } t := by
  unfold execSyncLossCaptureAbandon
  split
  · exact ⟨_, s.classifier.input, _, rfl, .abandonAll _⟩
  · exact ⟨s.capture.input, _, _, rfl, .abandonAll _⟩
  · exact ⟨s.capture.input, s.classifier.input, s, rfl, .refl s⟩

/-! ### The line (R66, R119 to R129) -/

theorem execHeaderExamination_frame (h : HeaderSample) (arrival : Lt) (s : State) : ∃ line items rs,
    execHeaderExamination h arrival s = .next { s with
      line := line, classifier := { s.classifier with input := items }, reports := rs } := by
  unfold execHeaderExamination
  split_ifs
  · exact ⟨s.line, s.classifier.input, s.reports, rfl⟩
  · exact ⟨_, _, _, rfl⟩

theorem execCellDelivery_frame (payload : List RxByte) (s : State) : ∃ line items,
    execCellDelivery payload s = .next { s with line := line, classifier := { s.classifier with input := items } } := by
  unfold execCellDelivery
  split
  · exact ⟨s.line, s.classifier.input, rfl⟩
  · split_ifs
    · exact ⟨s.line, s.classifier.input, rfl⟩
    · exact ⟨_, s.classifier.input, rfl⟩
    · exact ⟨_, _, rfl⟩

theorem execTrefEdge_frame (s : State) : ∃ lt line, execTrefEdge s = .next { s with lt := lt, line := line } := by
  unfold execTrefEdge
  split_ifs
  · exact ⟨s.lt, s.line, rfl⟩
  · exact ⟨_, _, rfl⟩

/-! ### The Scheduler (R56 to R59) -/

/-- A slot decision adds nothing to the media queue. -/
theorem decideSlot_media_nil (q : Queues) (shareCount share : Nat) (departure : Lt) (h : q.media = []) :
    (decideSlot q shareCount share departure).queues.media = [] := by
  unfold decideSlot
  split
  · exact h
  · split <;> simp [h, dropStaleHeads]

theorem State.decideNext_media_nil (s : State) (h : s.queues.media = []) : s.decideNext.queues.media = [] := by
  unfold State.decideNext
  split
  · exact h
  · exact decideSlot_media_nil _ _ _ _ h

theorem execSlotDecision_frame (s : State) : ∃ q sched rs n, (s.queues.media = [] → q.media = []) ∧ execSlotDecision s =
    .next { s with queues := q, sched := sched, reports := rs, classifier := { s.classifier with queueEmpties := n } } := by
  unfold execSlotDecision
  split_ifs
  · exact ⟨s.queues, s.sched, s.reports, s.classifier.queueEmpties, id, rfl⟩
  · exact ⟨_, _, _, _, s.decideNext_media_nil, rfl⟩

/-! ### The Classifier and the Map Store (R5 to R8, R41, R48) -/

@[simp] theorem MapStore.setBank_bank (m : MapStore) (i : BankId) : m.setBank i (m.bank i) = m := by cases i <;> rfl

@[simp] theorem MapStore.setBank_activeBank (m : MapStore) : m.setBank m.active m.activeBank = m := m.setBank_bank m.active

/-- What a classified cell can leave: the Classifier's lists, the hand-offs and the reports longer, the active bank's records and counters
changed, and, for a command cell, the Agent's queue and count. -/
def ClassifyStep (s t : State) : Prop :=
  ∃ offered b input q n rs, b.fields = s.map.activeBank.fields ∧ t = { s with
    classifier := { s.classifier with offered := offered }
    map := s.map.setBank s.map.active b
    capture := { s.capture with input := input }
    agent := { s.agent with cmdQueue := q, counters := { s.agent.counters with discarded := n } }
    reports := rs }

/-- Nothing but the active bank and the lists between the blocks has changed. -/
theorem ClassifyStep.ofBank {s : State} (b : Bank) (offered : List Offer) (input : List CaptureItem) (rs : List Report)
    (h : b.fields = s.map.activeBank.fields) : ClassifyStep s { s with
      classifier := { s.classifier with offered := offered }, map := s.map.setBank s.map.active b
      capture := { s.capture with input := input }, reports := rs } :=
  ⟨_, b, _, s.agent.cmdQueue, s.agent.counters.discarded, _, h, rfl⟩

/-- The map is left as it is. -/
theorem ClassifyStep.ofAgent (s : State) (offered : List Offer) (q : List Cell) (n : Counter) (rs : List Report) :
    ClassifyStep s { s with
      classifier := { s.classifier with offered := offered }
      agent := { s.agent with cmdQueue := q, counters := { s.agent.counters with discarded := n } }
      reports := rs } :=
  ⟨offered, s.map.activeBank, s.capture.input, q, n, rs, rfl, by simp⟩

theorem ClassifyStep.intercept (s : State) (c : Cell) : ClassifyStep s (s.intercept c) := by
  unfold State.intercept
  split_ifs
  · exact .ofAgent s s.classifier.offered s.agent.cmdQueue _ s.reports
  · exact .ofAgent s s.classifier.offered s.agent.cmdQueue _ _
  · exact .ofAgent s s.classifier.offered _ s.agent.counters.discarded s.reports

theorem ClassifyStep.classifyMatched (s : State) (e : Entry) (c : Cell) (arrival : Lt) : ClassifyStep s (s.classifyMatched e c arrival) := by
  simp only [State.classifyMatched]
  split
  · exact .ofBank _ s.classifier.offered s.capture.input s.reports (Bank.fields_modify _ _ _ fun _ => rfl)
  · next track missed gap outSeq _ =>
    by_cases hm : missed = 0
    · rw [if_pos hm]
      exact .ofBank _ _ _ s.reports (Bank.fields_modify _ _ _ fun _ => rfl)
    · rw [if_neg hm]
      exact .ofBank _ _ _ _ (Bank.fields_modify _ _ _ fun _ => rfl)

theorem ClassifyStep.classifyUnmapped (s : State) (c : Cell) (arrival : Lt) : ClassifyStep s (s.classifyUnmapped c arrival) := by
  simp only [State.classifyUnmapped]
  split
  · exact .ofBank _ s.classifier.offered s.capture.input s.reports rfl
  · split_ifs
    · exact .ofBank _ s.classifier.offered s.capture.input s.reports rfl
    · exact .ofAgent s _ s.agent.cmdQueue s.agent.counters.discarded s.reports

theorem execCellClassification_step (s : State) : ∃ items t, execCellClassification s = .next t
    ∧ ClassifyStep { s with classifier := { s.classifier with input := items } } t := by
  unfold execCellClassification
  split
  · next c arrival items _ =>
    refine ⟨items, _, rfl, ?_⟩
    unfold State.classify
    split_ifs
    · exact .intercept _ _
    · split
      · exact .classifyMatched _ _ _ _
      · exact .classifyUnmapped _ _ _
  · exact ⟨s.classifier.input, s, rfl, .ofAgent s s.classifier.offered s.agent.cmdQueue s.agent.counters.discarded s.reports⟩

/-- MEDIA_ADMISSION changes the offers, the counters of the bank of the offer, the reports, and, only in FORWARDING, the media queue. -/
theorem execMediaAdmission_frame (s : State) : ∃ offered i b media rs, b.fields = (s.map.bank i).fields
    ∧ (s.classifier.admission ≠ .forwarding → media = s.queues.media) ∧ execMediaAdmission s = .next { s with
        classifier := { s.classifier with offered := offered }
        map := s.map.setBank i b
        queues := { s.queues with media := media }
        reports := rs } := by
  simp only [execMediaAdmission]
  split
  · exact ⟨s.classifier.offered, s.map.active, s.map.activeBank, s.queues.media, s.reports, rfl, fun _ => rfl, by simp⟩
  · split_ifs with hf hq
    · exact ⟨_, _, _, s.queues.media, s.reports, Bank.fields_countAdmission _ _ _ _ rfl, fun _ => rfl, rfl⟩
    · exact ⟨_, _, _, s.queues.media, _, Bank.fields_countAdmission _ _ _ _ rfl, fun _ => rfl, rfl⟩
    · exact ⟨_, _, _, _, s.reports, Bank.fields_countAdmission _ _ _ _ rfl, fun h => absurd (not_not.mp hf) h, rfl⟩

/-- SYNC_LOSS_RESYNC changes the tracking records of both banks and the lists between the blocks. -/
theorem execSyncLossResync_frame (s : State) : ∃ items a b input, a.fields = s.map.bankA.fields ∧ b.fields = s.map.bankB.fields
    ∧ execSyncLossResync s = .next { s with
        classifier := { s.classifier with input := items }
        map := { s.map with bankA := a, bankB := b }
        capture := { s.capture with input := input } } := by
  unfold execSyncLossResync
  split
  · exact ⟨_, _, _, _, Bank.fields_resync _, Bank.fields_resync _, rfl⟩
  · exact ⟨s.classifier.input, s.map.bankA, s.map.bankB, s.capture.input, rfl, rfl, rfl⟩

/-! ### The Agent's own events (R150 to R165) -/

theorem setAt_self {α : Type} {n : Nat} (v : Vector α n) (i : Fin n) : setAt v i v[i] = v := by
  simp [setAt]

theorem kindIndex_injective {k l : CondKind} (h : kindIndex k = kindIndex l) : k = l := by
  revert h
  cases k <;> cases l <;> decide

@[simp] theorem Agent.setCond_cond (a : Agent) (k : CondKind) : a.setCond k (a.cond k) = a := by
  rw [Agent.setCond, Agent.cond, setAt_self]

@[simp] theorem Agent.cond_setCond_same (a : Agent) (k : CondKind) (e : CondEntry) : (a.setCond k e).cond k = e := setAt_same _ _ _

theorem Agent.cond_setCond_other (a : Agent) {k l : CondKind} (e : CondEntry) (h : l ≠ k) : (a.setCond k e).cond l = a.cond l :=
  setAt_other _ _ _ _ fun hi => h (kindIndex_injective hi)

/-- One condition's entry has changed; with no session open it owes no notice that it did not owe (R162, R165). -/
def EventStep (s t : State) : Prop :=
  ∃ k e rs, (s.agent.session = none → e.noticeOwed = true → (s.agent.cond k).noticeOwed = true)
    ∧ t = { s with reports := rs, agent := s.agent.setCond k e }

theorem EventStep.refl (s : State) : EventStep s s := ⟨.lineUnlocked, _, s.reports, fun _ h => h, by simp⟩

theorem execConditionEvent_step (k : CondKind) (s : State) : ∃ t, execConditionEvent k s = .next t ∧ EventStep s t := by
  unfold execConditionEvent
  split
  · exact ⟨s, rfl, .refl s⟩
  · refine ⟨_, rfl, k, _, _, fun hs => ?_, rfl⟩
    unfold CondEntry.takeEvent
    split <;> simp [hs]

theorem execLineCauseGone_step (s : State) : ∃ t, execLineCauseGone s = .next t ∧ EventStep s t := by
  unfold execLineCauseGone
  split
  · exact ⟨s, rfl, .refl s⟩
  · refine ⟨_, rfl, .lineUnlocked, _, _, fun _ => ?_, rfl⟩
    unfold CondEntry.takeCauseGone
    split <;> simp

/-- What a notice can leave: nothing new, or, with a session open, the notice placed, an ended operation forgotten or an owed flag cleared
(R150 to R153). -/
def NoticeStep (s t : State) : Prop :=
  t = s ∨ s.agent.session.isSome = true ∧ ∃ mgmt store l conds seq no, (l = s.agent.longOp ∨ s.agent.longOp.isEnded = true ∧ l = .none)
    ∧ t = { s with
        queues := { s.queues with mgmt := mgmt }
        capture := { s.capture with store := store }
        agent := { s.agent with longOp := l, conds := conds, replySeq := seq, noticeNo := no } }

theorem State.noticeAllowed_session {s : State} (h : s.noticeAllowed = true) : s.agent.session.isSome = true := by
  simp only [State.noticeAllowed, Bool.and_eq_true] at h
  exact h.1.1

theorem execCompletionNotice_step (s : State) : ∃ t, execCompletionNotice s = .next t ∧ NoticeStep s t := by
  unfold execCompletionNotice
  split
  · next k q o hl =>
    split_ifs with ha
    · exact ⟨_, rfl, .inr ⟨s.noticeAllowed_session ha, _, s.capture.store, _, s.agent.conds, _, _,
        .inr ⟨by rw [hl]; rfl, rfl⟩, rfl⟩⟩
    · exact ⟨s, rfl, .inl rfl⟩
  · exact ⟨s, rfl, .inl rfl⟩
  · exact ⟨s, rfl, .inl rfl⟩

theorem execCaptureReadyNotice_step (s : State) : ∃ t, execCaptureReadyNotice s = .next t ∧ NoticeStep s t := by
  unfold execCaptureReadyNotice
  split
  · exact ⟨s, rfl, .inl rfl⟩
  · split
    · exact ⟨s, rfl, .inl rfl⟩
    · split_ifs with ha
      · exact ⟨_, rfl, .inr ⟨s.noticeAllowed_session (Bool.and_eq_true_iff.mp ha).1, _, _, _, s.agent.conds, _, _, .inl rfl, rfl⟩⟩
      · exact ⟨s, rfl, .inl rfl⟩

theorem execConditionNotice_step (s : State) : ∃ t, execConditionNotice s = .next t ∧ NoticeStep s t := by
  unfold execConditionNotice
  split
  · exact ⟨s, rfl, .inl rfl⟩
  · split_ifs with ha
    · exact ⟨_, rfl, .inr ⟨s.noticeAllowed_session (Bool.and_eq_true_iff.mp (Bool.and_eq_true_iff.mp ha).1).1, _, s.capture.store, _, _,
        _, _, .inl rfl, rfl⟩⟩
    · exact ⟨s, rfl, .inl rfl⟩

end Sys2Proof.Machine
end

section
/-! PROOF. Every step keeps the laws of R9 and R10 (O55). -/

namespace Sys2Proof.Machine

open Sys2Proof.Safety

/-! ### Arguments read are in their ranges (R173, R180) -/

theorem except_bind_ok {α β : Type} {x : Except Nat α} {f : α → Except Nat β} {b : β} (h : (x >>= f) = .ok b) :
    ∃ a, x = .ok a ∧ f a = .ok b := by
  cases x with
  | error p => cases h
  | ok a => exact ⟨a, rfl, h⟩

theorem argument_eq_ok {α : Type} {pos : Nat} {r : Reader α} {bs rest : List Byte} {x : α} (h : argument pos r bs = .ok (x, rest)) :
    r bs = some (x, rest) := by
  unfold argument at h
  split at h
  · next hr =>
    cases h
    exact hr
  · cases h

theorem constraint_eq_ok {pos : Nat} {b : Bool} {u : Unit} (h : constraint pos b = .ok u) : b = true := by
  cases b with
  | false => cases h
  | true => rfl

theorem oneArg_eq_ok {α : Type} {r : Reader α} {bs : List Byte} {x : α} (h : oneArg r bs = .ok x) : ∃ rest, r bs = some (x, rest) := by
  unfold oneArg at h
  split at h
  · next y rest hy =>
    cases h
    exact ⟨rest, argument_eq_ok hy⟩
  · cases h

theorem readWhere_eq_some {α β : Type} {r : Reader α} {f : α → Option β} {bs rest : List Byte} {y : β}
    (h : readWhere r f bs = some (y, rest)) : ∃ x, r bs = some (x, rest) ∧ f x = some y := by
  unfold readWhere at h
  split at h
  · next x rest' hx =>
    obtain ⟨z, hz, he⟩ := Option.map_eq_some_iff.mp h
    cases he
    exact ⟨x, hx, hz⟩
  · cases h

theorem readRange_eq_some {n lo hi v : Nat} {bs rest : List Byte} (h : readRange n lo hi bs = some (v, rest)) : lo ≤ v ∧ v ≤ hi := by
  obtain ⟨x, -, hx⟩ := readWhere_eq_some h
  split_ifs at hx with hr
  cases hx
  exact hr

theorem readTag_ne_zero {bs rest : List Byte} {t : Tag} (h : readTag bs = some (t, rest)) : t ≠ 0 := by
  obtain ⟨v, hv, ht⟩ := readWhere_eq_some h
  obtain ⟨h1, h2⟩ := readRange_eq_some hv
  cases ht
  bv_omega

theorem readOptional_eq_some {α : Type} {w : Nat} {r : Reader α} {bs rest : List Byte} {x : α}
    (h : readOptional w r bs = some (some x, rest)) : ∃ bs', r bs' = some (x, rest) := by
  unfold readOptional at h
  split at h
  · obtain ⟨_, _, he⟩ := Option.map_eq_some_iff.mp h
    cases he
  · next bs' _ =>
    obtain ⟨_, hp, he⟩ := Option.map_eq_some_iff.mp h
    cases he
    exact ⟨bs', hp⟩
  · cases h

/-- What MAP_PUT parses is an entry that R2 allows. -/
theorem mapPutArgs_legal {bs : List Byte} {f : EntryFields} (h : mapPutArgs bs = .ok f) : EntryLegal f := by
  unfold mapPutArgs at h
  obtain ⟨⟨tag, bs1⟩, htag, h⟩ := except_bind_ok h
  obtain ⟨⟨action, bs2⟩, -, h⟩ := except_bind_ok h
  obtain ⟨⟨out, bs3⟩, hout, h⟩ := except_bind_ok h
  obtain ⟨_, hc3, h⟩ := except_bind_ok h
  obtain ⟨⟨numbering, bs4⟩, -, h⟩ := except_bind_ok h
  obtain ⟨⟨restamp, bs5⟩, -, h⟩ := except_bind_ok h
  obtain ⟨⟨damage, bs6⟩, -, h⟩ := except_bind_ok h
  obtain ⟨⟨stale, bs7⟩, -, h⟩ := except_bind_ok h
  obtain ⟨⟨limit, bs8⟩, hlimit, h⟩ := except_bind_ok h
  obtain ⟨⟨ctx, bs9⟩, -, h⟩ := except_bind_ok h
  obtain ⟨_, hc9, h⟩ := except_bind_ok h
  cases h
  refine ⟨readTag_ne_zero (argument_eq_ok htag), fun t ht => ?_, fun n hn => ?_, ?_⟩
  · subst ht
    obtain ⟨_, ht⟩ := readOptional_eq_some (argument_eq_ok hout)
    refine ⟨readTag_ne_zero ht, ?_⟩
    have := constraint_eq_ok hc3
    cases action <;> simp_all [EntryFields.forwards]
  · subst hn
    obtain ⟨_, hn⟩ := readOptional_eq_some (argument_eq_ok hlimit)
    exact readRange_eq_some hn
  · have := constraint_eq_ok hc9
    cases action <;> simp_all [EntryFields.captures]

/-! ### States that stand under the same laws -/

/-- The banks hold the same entry fields, the same bank is active, the reserved tags are the same, and no slot assigns a tag that it did
not assign. -/
structure SameTags (s t : State) : Prop where
  active : t.map.active = s.map.active
  fieldsA : t.map.bankA.fields = s.map.bankA.fields
  fieldsB : t.map.bankB.fields = s.map.bankB.fields
  cmdTag : t.agent.cmdTag = s.agent.cmdTag
  replyTag : t.agent.replyTag = s.agent.replyTag
  slots : ∀ (i : Fin 16) (g : Tag), slotTag t.carousel.slots[i] = some g → slotTag s.carousel.slots[i] = some g

/-- Fewer tags assigned by the slots keep the laws. -/
theorem ActiveLaws.mono {fs : List EntryFields} {cmd reply : Tag} {slots slots' : Fin 16 → Option Tag}
    (h : ActiveLaws fs cmd reply slots) (hs : ∀ i g, slots' i = some g → slots i = some g) : ActiveLaws fs cmd reply slots' :=
  { h with
    slotsFree := fun i t ht => h.slotsFree i t (hs i t ht)
    slotsOne := fun i j t hi hj => h.slotsOne i j t (hs i t hi) (hs j t hj) }

theorem SameTags.activeFields {s t : State} (h : SameTags s t) : t.map.activeBank.fields = s.map.activeBank.fields := by
  simp only [MapStore.activeBank, h.active]
  cases s.map.active
  · exact h.fieldsA
  · exact h.fieldsB

theorem SameTags.tagLaws {s t : State} (h : SameTags s t) (hs : TagLaws s) : TagLaws t := by
  obtain ⟨ha, hb, hl⟩ := (tagLaws_iff s).mp hs
  refine (tagLaws_iff t).mpr ⟨h.fieldsA ▸ ha, h.fieldsB ▸ hb, ?_⟩
  rw [h.activeFields, h.cmdTag, h.replyTag]
  exact hl.mono h.slots

theorem SameTags.refl (s : State) : SameTags s s := ⟨rfl, rfl, rfl, rfl, rfl, fun _ _ h => h⟩

theorem SameTags.trans {s t u : State} (h : SameTags s t) (h' : SameTags t u) : SameTags s u :=
  ⟨h'.active.trans h.active, h'.fieldsA.trans h.fieldsA, h'.fieldsB.trans h.fieldsB, h'.cmdTag.trans h.cmdTag,
    h'.replyTag.trans h.replyTag, fun i g hg => h.slots i g (h'.slots i g hg)⟩

/-- A step that touches neither map, carousel nor reserved tags. -/
theorem SameTags.of_eq {s t : State} (hm : t.map = s.map) (hc : t.carousel = s.carousel) (h1 : t.agent.cmdTag = s.agent.cmdTag)
    (h2 : t.agent.replyTag = s.agent.replyTag) : SameTags s t :=
  ⟨by rw [hm], by rw [hm], by rw [hm], h1, h2, fun i g h => by rwa [hc] at h⟩

theorem MapStore.bankA_fields_setBank {m : MapStore} {i : BankId} {b : Bank} (h : b.fields = (m.bank i).fields) :
    (m.setBank i b).bankA.fields = m.bankA.fields := by
  cases i
  · exact h
  · rfl

theorem MapStore.bankB_fields_setBank {m : MapStore} {i : BankId} {b : Bank} (h : b.fields = (m.bank i).fields) :
    (m.setBank i b).bankB.fields = m.bankB.fields := by
  cases i
  · rfl
  · exact h

/-- One bank has changed in tracking records, counters or default action alone. -/
theorem SameTags.of_setBank {s t : State} (i : BankId) (b : Bank) (hb : b.fields = (s.map.bank i).fields)
    (hm : t.map = s.map.setBank i b) (hc : t.carousel = s.carousel) (h1 : t.agent.cmdTag = s.agent.cmdTag)
    (h2 : t.agent.replyTag = s.agent.replyTag) : SameTags s t :=
  ⟨by rw [hm, MapStore.active_setBank], by rw [hm, MapStore.bankA_fields_setBank hb], by rw [hm, MapStore.bankB_fields_setBank hb],
    h1, h2, fun i g h => by rwa [hc] at h⟩

/-- One slot has changed, and assigns no other tag than it did. -/
theorem SameTags.setSlot (s : State) (i : Fin 16) (o : Option SlotData)
    (h : ∀ g, slotTag o = some g → slotTag s.carousel.slots[i] = some g) : SameTags s (s.setSlot i o) := by
  refine ⟨rfl, rfl, rfl, rfl, rfl, fun j g hg => ?_⟩
  rw [State.setSlot_carousel] at hg
  by_cases hj : j = i
  · subst hj
    rw [setAt_same] at hg
    exact h g hg
  · rwa [setAt_other _ _ _ _ hj] at hg

/-- A slot that keeps its run state and its output tag assigns what it assigned. -/
theorem slotTag_congr {d d' : SlotData} (hr : d'.run = d.run) (ht : d'.outTag = d.outTag) : slotTag (some d') = slotTag (some d) := by
  rw [slotTag_some, slotTag_some, hr, ht]

theorem SameTags.setSlot_congr {s : State} {i : Fin 16} {d : SlotData} (hd : s.carousel.slots[i] = some d) (d' : SlotData)
    (hr : d'.run = d.run) (ht : d'.outTag = d.outTag) : SameTags s (s.setSlot i (some d')) :=
  .setSlot s i _ fun g hg => by rwa [hd, ← slotTag_congr hr ht]

/-! ### The Carousel Engine (R105 to R118) -/

@[simp] theorem SlotData.takePending_run (d : SlotData) : d.takePending.run = d.run := by
  unfold SlotData.takePending
  split_ifs <;> rfl

@[simp] theorem SlotData.takePending_outTag (d : SlotData) : d.takePending.outTag = d.outTag := by
  unfold SlotData.takePending
  split_ifs <;> rfl

/-- Only the carousel and the reports have changed, and no slot assigns a new tag. -/
theorem SameTags.of_slots {s t : State} (h : ∃ c rs, t = { s with carousel := c, reports := rs })
    (hs : ∀ (i : Fin 16) (g : Tag), slotTag t.carousel.slots[i] = some g → slotTag s.carousel.slots[i] = some g) : SameTags s t := by
  obtain ⟨c, rs, rfl⟩ := h
  exact ⟨rfl, rfl, rfl, rfl, rfl, hs⟩

/-- The slots after an emission's start: the next due LT is set, and lateness counted (R110). -/
theorem State.startEmission_slots (s : State) (i : Fin 16) (d d' : SlotData) (body : List Byte) :
    (s.startEmission i d d' body).carousel.slots = setAt s.carousel.slots i (some { d' with
      nextDue := d.advanceDue s.lt
      lateEvents := if 2 ≤ d.elapsed s.lt then Counter.inc d'.lateEvents else d'.lateEvents }) := by
  by_cases h : 2 ≤ d.elapsed s.lt <;> simp [State.startEmission, h]

theorem SameTags.startEmission {s : State} {i : Fin 16} {d : SlotData} (hd : s.carousel.slots[i] = some d) (body : List Byte) :
    SameTags s (s.startEmission i d d.takePending body) := by
  refine .of_slots (s.startEmission_frame i d _ body) fun j g hg => ?_
  rw [State.startEmission_slots] at hg
  exact (SameTags.setSlot_congr hd _ (by simp) (by simp)).slots j g hg

theorem SameTags.chooseFrom (is : List (Fin 16)) (s : State) : SameTags s (State.chooseFrom is s) := by
  induction is generalizing s with
  | nil => exact ⟨rfl, rfl, rfl, rfl, rfl, fun _ _ hg => hg⟩
  | cons i is ih =>
    rw [State.chooseFrom]
    split
    · exact ih s
    · next d hd =>
      split
      · exact (SameTags.setSlot_congr hd _ (by simp) (by simp)).trans (ih _)
      · have h : SameTags s { s with carousel := { s.carousel with due := is } } := ⟨rfl, rfl, rfl, rfl, rfl, fun _ _ hg => hg⟩
        exact h.trans (SameTags.startEmission (s := { s with carousel := { s.carousel with due := is } }) hd _)

theorem SameTags.choose (s : State) : SameTags s s.choose := by
  unfold State.choose
  split
  · exact .refl s
  · exact .chooseFrom _ s

theorem SameTags.joinDue (s : State) (i : Fin 16) : SameTags s (s.joinDue i) := by
  unfold State.joinDue
  split_ifs
  · exact .refl s
  · exact ⟨rfl, rfl, rfl, rfl, rfl, fun _ _ hg => hg⟩

theorem execSlotDue_sameTags (i : Fin 16) (s : State) : Ensures (SameTags s) (execSlotDue i s) := by
  unfold execSlotDue
  split
  · exact (ensures_next _ _).mpr (.refl s)
  · split_ifs
    · exact (ensures_next _ _).mpr ((SameTags.joinDue s i).trans (.choose _))
    · exact (ensures_next _ _).mpr (.refl s)

/-- At an emission's end STOPPING becomes DEFINED: the slot assigns its tag no longer, or as it did. -/
theorem slotTag_endEmission {d : SlotData} {g : Tag} (h : slotTag (some d.endEmission) = some g) : slotTag (some d) = some g := by
  obtain ⟨run, outTag, type, version, interval, current, pendingBytes, pendingLen, published, bump, nextDue, outSeq, em, late⟩ := d
  cases run
  · exact h
  · exact h
  · cases h

theorem execTableCellPlacement_sameTags (s : State) : Ensures (SameTags s) (execTableCellPlacement s) := by
  unfold execTableCellPlacement
  split
  · exact (ensures_next _ _).mpr (.refl s)
  · next e he =>
    split
    · exact (ensures_next _ _).mpr (.refl s)
    · next d hd =>
      have queued (o : Option SlotData) (em : Option Emission)
          (ho : ∀ g, slotTag o = some g → slotTag s.carousel.slots[e.slot] = some g) : SameTags s { s with
            queues := { s.queues with table := s.queues.table ++ [e.cell d] }
            carousel := { s.carousel with slots := setAt s.carousel.slots e.slot o, emission := em } } :=
        (SameTags.setSlot s e.slot o ho).trans ⟨rfl, rfl, rfl, rfl, rfl, fun _ _ hg => hg⟩
      have hn : slotTag (some { d with outSeq := d.outSeq + 1 }) = slotTag (some d) := slotTag_congr rfl rfl
      split_ifs
      · refine (ensures_next _ _).mpr (queued (some { d with outSeq := d.outSeq + 1 }) (some { e with placed := e.placed + 1 })
          fun g hg => ?_)
        rw [hd]
        exact hn.symm.trans hg
      · refine (ensures_next _ _).mpr (SameTags.trans (queued (some (SlotData.endEmission { d with outSeq := d.outSeq + 1 })) none
          fun g hg => ?_) (.choose _))
        rw [hd]
        exact hn.symm.trans (slotTag_endEmission hg)
      · exact (ensures_next _ _).mpr (.refl s)

theorem slotTag_warm {lt : Lt} {o : Option SlotData} {g : Tag} (h : slotTag (o.map (SlotData.warm lt)) = some g) : slotTag o = some g := by
  cases o with
  | none => cases h
  | some d =>
    obtain ⟨run, outTag, type, version, interval, current, pendingBytes, pendingLen, published, bump, nextDue, outSeq, em, late⟩ := d
    cases run
    · exact h
    · exact h
    · cases h

theorem SameTags.warm (s : State) : SameTags s s.warm := by
  refine ⟨rfl, Bank.fields_freshTracking _, Bank.fields_freshTracking _, rfl, rfl, fun i g hg => ?_⟩
  have hw : s.warm.carousel.slots[i] = (s.carousel.slots[i]).map (SlotData.warm s.lt) := mapAll_get _ _ i
  rw [hw] at hg
  exact slotTag_warm hg

/-! ### The map's edits, the swap, a slot's start, the reserved tags -/

/-- In a legal bank values are not repeated if no two entries of different input tags have the same. -/
theorem FieldsLegal.nodup_map_filter {β : Type} {fs : List EntryFields} (h : FieldsLegal fs) (p : EntryFields → Bool) (g : EntryFields → β)
    (hd : ∀ x ∈ fs, ∀ y ∈ fs, y.inputTag ≠ x.inputTag → p x = true → p y = true → g y ≠ g x) : ((fs.filter p).map g).Nodup :=
  List.pairwise_map.mpr (List.pairwise_filter.mpr
    (h.nodup.imp_of_mem fun {x y} hx hy hne px py hg => hd x hx y hy hne.symm px py hg.symm))

/-- The bank that a swap makes active holds the entry fields of the shadow bank. -/
theorem State.swap_activeFields (s : State) : s.swap.map.activeBank.fields = s.map.shadowBank.fields := by
  have h : s.swap.map.activeBank = s.map.swapped := by
    simp only [State.swap, MapStore.activeBank, MapStore.shadowId]
    cases s.map.active <;> rfl
  rw [h, MapStore.fields_swapped]

theorem Bank.forwarder_eq_none_iff (b : Bank) (t : Tag) : b.forwarder t = none ↔ t ∉ forwardTags b.fields := by
  simp [Bank.forwarder, mem_forwardTags, Bank.fields]

theorem Bank.find_eq_none_iff (b : Bank) (t : Tag) : b.find t = none ↔ ∀ f ∈ b.fields, f.inputTag ≠ t := by
  simp [Bank.find, Bank.fields]

theorem startClash_eq_none {s : State} {t : Tag} (h : startClash s t = none) :
    t ∉ forwardTags s.map.activeBank.fields ∧ t ≠ s.agent.replyTag ∧ ∀ i : Fin 16, slotTag s.carousel.slots[i] ≠ some t := by
  unfold startClash at h
  split at h
  · cases h
  · next hf =>
    split_ifs at h with hr
    exact ⟨(Bank.forwarder_eq_none_iff _ _).mp hf, hr, (Carousel.holder_eq_none_iff _ _).mp (Option.map_eq_none_iff.mp h)⟩

theorem tagsClash_eq_none {s : State} {cmd reply : Tag} (h : tagsClash s cmd reply = none) :
    (∀ f ∈ s.map.activeBank.fields, f.inputTag ≠ cmd) ∧ reply ∉ forwardTags s.map.activeBank.fields
      ∧ ∀ i : Fin 16, slotTag s.carousel.slots[i] ≠ some reply := by
  unfold tagsClash at h
  split_ifs at h
  split at h
  · cases h
  · next hf =>
    split at h
    · cases h
    · next hr =>
      exact ⟨(Bank.find_eq_none_iff _ _).mp hf, (Bank.forwarder_eq_none_iff _ _).mp hr,
        (Carousel.holder_eq_none_iff _ _).mp (Option.map_eq_none_iff.mp h)⟩

end Sys2Proof.Machine

namespace Sys2Proof.Safety

open Sys2Proof.Machine

theorem TagLaws.activeLegal {s : State} (h : TagLaws s) : FieldsLegal s.map.activeBank.fields := by
  obtain ⟨ha, hb, -⟩ := (tagLaws_iff s).mp h
  unfold MapStore.activeBank
  cases s.map.active
  · exact ha
  · exact hb

theorem TagLaws.shadowLegal {s : State} (h : TagLaws s) : FieldsLegal s.map.shadowBank.fields := by
  obtain ⟨ha, hb, -⟩ := (tagLaws_iff s).mp h
  unfold MapStore.shadowBank MapStore.shadowId
  cases s.map.active
  · exact hb
  · exact ha

/-- An edit that leaves the shadow bank legal keeps the laws: the active bank is another. -/
theorem TagLaws.setShadow {s : State} (h : TagLaws s) (b : Bank) (hb : FieldsLegal b.fields) :
    TagLaws (s.setBank s.map.shadowId b) := by
  obtain ⟨hA, hB, hl⟩ := (tagLaws_iff s).mp h
  rw [tagLaws_iff, State.setBank_map, State.setBank_agent, State.setBank_carousel]
  unfold MapStore.shadowId MapStore.activeBank at *
  rw [MapStore.active_setBank]
  cases hm : s.map.active <;> rw [hm] at hl
  · exact ⟨hA, hb, hl⟩
  · exact ⟨hb, hB, hl⟩

/-- An edit is taken on a legal shadow bank, or refused and nothing changed (R12). -/
theorem TagLaws.editShadow {s : State} (h : TagLaws s) (f : Bank → Answer × Bank)
    (hf : FieldsLegal s.map.shadowBank.fields → FieldsLegal (f s.map.shadowBank).2.fields) : TagLaws (Machine.editShadow f s).2 := by
  unfold Machine.editShadow
  split
  · exact h
  · exact h.setShadow _ (hf h.shadowLegal)

/-- A shadow bank that passes validation may become active (R9, R10, R18). -/
theorem TagLaws.validated {s : State} (h : TagLaws s) (hv : validate s = none) :
    ActiveLaws s.map.shadowBank.fields s.agent.cmdTag s.agent.replyTag fun i => slotTag s.carousel.slots[i] := by
  have hslots := ((tagLaws_iff s).mp h).2.2
  have passes : ∀ f ∈ s.map.shadowBank.fields, ∃ e ∈ s.map.shadowBank.entries,
      e.fields = f ∧ ∀ check ∈ validationChecks, ¬ FailsCheck s e check := by
    intro f hf
    obtain ⟨e, he, rfl⟩ := List.mem_map.mp hf
    exact ⟨e, he, rfl, fun check hc hfail => (validate_eq_none_iff s).mp hv e he ⟨check, hc, hfail⟩⟩
  refine ⟨h.shadowLegal.nodup_map_filter _ _ fun x hx y hy hne px py hg => ?_, fun hr => ?_,
    fun i t ht => ⟨(hslots.slotsFree i t ht).1, fun htf => ?_⟩,
    hslots.slotsOne, fun f hf hc => ?_, h.shadowLegal.nodup_map_filter _ _ fun x hx y hy hne px py hg => ?_⟩
  · obtain ⟨e, -, rfl, hpass⟩ := passes x hx
    obtain ⟨o, ho, rfl, -⟩ := passes y hy
    exact hpass .sharedOutputTag (by decide) ⟨px, o, ho, hne, py, hg⟩
  · obtain ⟨f, hf, hfw, htag⟩ := (mem_forwardTags _ _).mp hr
    obtain ⟨e, -, rfl, hpass⟩ := passes f hf
    exact hpass .replyTag (by decide) ⟨hfw, htag⟩
  · obtain ⟨f, hf, hfw, htag⟩ := (mem_forwardTags _ _).mp htf
    obtain ⟨e, -, rfl, hpass⟩ := passes f hf
    obtain ⟨d, hd, hr, ho⟩ := (slotTag_eq_some _ _).mp ht
    exact hpass .carouselTag (by decide) ⟨hfw, i, d, hd, hr, ho.trans htag.symm⟩
  · obtain ⟨e, -, rfl, hpass⟩ := passes f hf
    exact hpass .commandTag (by decide) hc
  · obtain ⟨e, -, rfl, hpass⟩ := passes x hx
    obtain ⟨o, ho, rfl, -⟩ := passes y hy
    exact hpass .sharedContext (by decide) ⟨px, o, ho, hne, py, hg⟩

theorem TagLaws.swap {s : State} (h : TagLaws s) (hv : validate s = none) : TagLaws s.swap := by
  obtain ⟨hA, hB, -⟩ := (tagLaws_iff s).mp h
  have hsw := MapStore.fields_swapped s.map
  refine (tagLaws_iff _).mpr ⟨?_, ?_, s.swap_activeFields ▸ h.validated hv⟩
  · exact (MapStore.bankA_fields_setBank hsw).symm ▸ hA
  · exact (MapStore.bankB_fields_setBank hsw).symm ▸ hB

/-- A slot may begin to assign a tag that no source assigns (R100, R104). -/
theorem TagLaws.setSlot {s : State} (h : TagLaws s) (i : Fin 16) (d : SlotData) (hc : startClash s d.outTag = none) :
    TagLaws (s.setSlot i (some d)) := by
  obtain ⟨hA, hB, hl⟩ := (tagLaws_iff s).mp h
  obtain ⟨hf, hr, hh⟩ := startClash_eq_none hc
  have at_slot (j : Fin 16) (t : Tag) (ht : slotTag (s.setSlot i (some d)).carousel.slots[j] = some t) :
      (j = i ∧ t = d.outTag) ∨ (j ≠ i ∧ slotTag s.carousel.slots[j] = some t) := by
    rw [State.setSlot_carousel] at ht
    by_cases hj : j = i
    · subst hj
      obtain ⟨d', hd', -, ho⟩ := (slotTag_eq_some _ _).mp ht
      rw [setAt_same] at hd'
      cases hd'
      exact .inl ⟨rfl, ho.symm⟩
    · rw [setAt_other _ _ _ _ hj] at ht
      exact .inr ⟨hj, ht⟩
  refine (tagLaws_iff _).mpr ⟨hA, hB, { hl with slotsFree := fun j t ht => ?_, slotsOne := fun j k t hj hk => ?_ }⟩
  · rcases at_slot j t ht with ⟨-, rfl⟩ | ⟨-, ht⟩
    · exact ⟨hr, hf⟩
    · exact hl.slotsFree j t ht
  · rcases at_slot j t hj with ⟨rfl, rfl⟩ | ⟨-, hj'⟩
    · rcases at_slot k _ hk with ⟨rfl, -⟩ | ⟨-, hk'⟩
      · rfl
      · exact absurd hk' (hh k)
    · rcases at_slot k t hk with ⟨rfl, rfl⟩ | ⟨-, hk'⟩
      · exact absurd hj' (hh j)
      · exact hl.slotsOne j k t hj' hk'

/-- Two new reserved tags that clash with no source keep the laws (R155). -/
theorem TagLaws.setTags {s : State} (h : TagLaws s) (cmd reply : Tag) (hc : tagsClash s cmd reply = none) :
    TagLaws { s with agent := { s.agent with cmdTag := cmd, replyTag := reply } } := by
  obtain ⟨hA, hB, hl⟩ := (tagLaws_iff s).mp h
  obtain ⟨hf, hr, hh⟩ := tagsClash_eq_none hc
  exact (tagLaws_iff _).mpr ⟨hA, hB, { hl with
    replyFree := hr, slotsFree := fun i t ht => ⟨fun e => hh i (ht.trans (congrArg some e)), (hl.slotsFree i t ht).2⟩, command := hf }⟩

end Sys2Proof.Safety

namespace Sys2Proof.Machine

open Sys2Proof.Safety

theorem tagLaws_reset : TagLaws State.reset := by
  have hb : FieldsLegal Bank.reset.fields := ⟨.nil, fun _ h => (List.not_mem_nil h).elim, by decide⟩
  have hs : ∀ (i : Fin 16) (t : Tag), slotTag State.reset.carousel.slots[i] ≠ some t := by
    simp [State.reset, Carousel.reset]
  exact (tagLaws_iff _).mpr ⟨hb, hb, .nil, List.not_mem_nil, fun i t ht => absurd ht (hs i t), fun i _ t ht => absurd ht (hs i t),
    fun _ h => (List.not_mem_nil h).elim, .nil⟩

/-! ### The Agent and its requests -/

theorem SameTags.endSession (s : State) : SameTags s s.endSession := ⟨rfl, rfl, rfl, rfl, rfl, fun _ _ h => h⟩

theorem agentKeeps_tagLaws : AgentKeeps TagLaws where
  unqueued s rest h := (SameTags.of_eq (t := s.unqueued rest) rfl rfl rfl rfl).tagLaws h
  endSession s h := (SameTags.endSession s).tagLaws h
  replyOutside s c a h := (SameTags.of_eq (t := s.replyOutside c a) rfl rfl rfl rfl).tagLaws h
  answerRepeat s x _ h := (SameTags.of_eq (t := s.answerRepeat x) rfl rfl rfl rfl).tagLaws h
  advanceExpected s h := (SameTags.of_eq (t := s.advanceExpected) rfl rfl rfl rfl).tagLaws h
  settle s c a tag mark h := (SameTags.of_eq (t := s.settle c a tag mark) rfl rfl rfl rfl).tagLaws h

/-- A request that leaves every source where it is. -/
theorem RequestKeeps.of_sameTags {α : Type} {r : Request α} (act : ∀ c y s, SameTags s (r.act c y s).2)
    (after : ∀ s, SameTags s (r.after s)) : RequestKeeps TagLaws r :=
  ⟨fun c y s h _ _ => (act c y s).tagLaws h, fun s h => (after s).tagLaws h⟩

theorem mapPutRequest_keepsTags : RequestKeeps TagLaws mapPutRequest where
  act c f s h _ hp := h.editShadow _ fun hl => by
    unfold putEntry
    dsimp only
    split_ifs with hc hn
    · exact hl
    · exact hl
    · refine hl.insertEntry (Entry.fresh f) (mapPutArgs_legal hp) ?_
      rcases not_and_or.mp hn with hn | hn
      · exact .inl (not_le.mp hn)
      · exact .inr (Bool.eq_true_of_not_eq_false hn)
  after _ h := h

theorem mapRemoveRequest_keepsTags : RequestKeeps TagLaws mapRemoveRequest where
  act c t s h _ _ := h.editShadow _ fun hl => by
    unfold removeEntry
    split
    · exact hl
    · exact hl.sublist (List.filter_sublist.map _)
  after _ h := h

theorem mapClearRequest_keepsTags : RequestKeeps TagLaws mapClearRequest where
  act _ _ _ h _ _ := h.editShadow _ fun hl => hl.sublist (List.nil_sublist _)
  after _ h := h

theorem mapCopyRequest_keepsTags : RequestKeeps TagLaws mapCopyRequest where
  act c _ s h _ _ := h.editShadow _ fun _ => by
    have hf : (copyBank s.map.activeBank s.map.shadowBank).fields = s.map.activeBank.fields := by
      simp [copyBank, Bank.fields, Function.comp_def, Entry.fresh]
    exact hf ▸ h.activeLegal
  after _ h := h

theorem mapDefaultRequest_keepsTags : RequestKeeps TagLaws mapDefaultRequest where
  act _ _ _ h _ _ := h.editShadow _ fun hl => hl
  after _ h := h

theorem commitRequest_keepsTags : RequestKeeps TagLaws commitRequest where
  act c due s h _ _ := by
    simp only [commitRequest]
    split
    · unfold commitNow
      split
      · exact h
      · next hv =>
        split
        · exact (SameTags.of_eq (s := s.swap) rfl rfl rfl rfl).tagLaws (h.swap hv)
        · exact (SameTags.mk (s := s) rfl rfl rfl rfl rfl fun _ _ hg => hg).tagLaws h
    · exact h
  after _ h := h

theorem slotStartRequest_keepsTags : RequestKeeps TagLaws slotStartRequest where
  act c i s h _ _ := by
    simp only [slotStartRequest]
    split
    · exact h
    · next d hd =>
      split
      · exact h
      · exact h
      · split_ifs
        · exact h
        · split
          · exact h
          · next hc =>
            exact (SameTags.trans (.joinDue _ _) (.choose _)).tagLaws (h.setSlot i { d with run := .running, nextDue := s.lt } hc)
  after _ h := h

theorem tagsSetRequest_keepsTags : RequestKeeps TagLaws tagsSetRequest where
  act c x s h _ _ := by
    simp only [tagsSetRequest]
    split
    · exact h
    · next hc => exact h.setTags x.1 x.2 hc
  after _ h := h

theorem closeRequest_keepsTags : RequestKeeps TagLaws closeRequest := .of_sameTags (fun _ _ s => .refl s) .endSession

theorem commitCancelRequest_keepsTags : RequestKeeps TagLaws commitCancelRequest :=
  .of_sameTags (fun c _ s => by
    simp only [commitCancelRequest]
    split
    · exact ⟨rfl, rfl, rfl, rfl, rfl, fun _ _ hg => hg⟩
    · exact .refl s) .refl

theorem mapReadRequest_keepsTags : RequestKeeps TagLaws mapReadRequest :=
  .of_sameTags (fun c x s => by
    simp only [mapReadRequest]
    split
    · exact .refl s
    · exact .refl s) .refl

theorem ContextStep.sameTags {s t : State} (h : ContextStep s t) : SameTags s t := by
  obtain ⟨cs, rs, rfl⟩ := h
  exact .of_eq rfl rfl rfl rfl

theorem HandoffStep.sameTags {s t : State} (h : HandoffStep s t) : SameTags s t := by
  cases h with
  | contexts t h => exact h.sameTags
  | filed r x cs rs => exact .of_eq rfl rfl rfl rfl

/-- Arming a context changes the contexts and the reports alone. -/
theorem ContextStep.arm (s : State) (i : Fin 8) (f : Filter) : ContextStep s (s.arm i f) := by
  unfold State.arm
  split
  · exact (ContextStep.abandon s i _).trans (.setContext _ i _)
  · exact .setContext s i _
  · exact .setContext s i _

theorem ctxArmRequest_keepsTags : RequestKeeps TagLaws ctxArmRequest :=
  .of_sameTags (fun _ x s => (ContextStep.arm s x.1 _).sameTags) .refl

theorem ctxDisarmRequest_keepsTags : RequestKeeps TagLaws ctxDisarmRequest :=
  .of_sameTags (fun _ i s => (ContextStep.setContext s i _).sameTags) .refl

theorem storeReleaseRequest_keepsTags : RequestKeeps TagLaws storeReleaseRequest :=
  .of_sameTags (fun c i s => by
    simp only [storeReleaseRequest]
    split
    · exact .refl s
    · exact .of_eq rfl rfl rfl rfl) .refl

theorem slotDefineRequest_keepsTags : RequestKeeps TagLaws slotDefineRequest :=
  .of_sameTags (fun c x s => by
    simp only [slotDefineRequest]
    split
    · exact .setSlot s x.slot _ nofun
    · next d hd =>
      split_ifs with hr
      · refine .setSlot s x.slot _ fun g hg => ?_
        rw [slotTag_some, if_neg (by simp [SlotData.redefine, hr, SlotRun.assigns])] at hg
        cases hg
      · exact .refl s) .refl

theorem slotWriteRequest_keepsTags : RequestKeeps TagLaws slotWriteRequest :=
  .of_sameTags (fun c x s => by
    simp only [slotWriteRequest]
    split
    · exact .refl s
    · next hd => exact .setSlot_congr hd _ rfl rfl) .refl

theorem slotPublishRequest_keepsTags : RequestKeeps TagLaws slotPublishRequest :=
  .of_sameTags (fun c x s => by
    simp only [slotPublishRequest]
    split
    · exact .refl s
    · next hd => exact .setSlot_congr hd _ rfl rfl) .refl

/-- A RUNNING slot that is stopped assigns its tag as before while its emission ends, or no longer (R105). -/
theorem slotTag_stopped {c : Carousel} {i : Fin 16} {d : SlotData} (hr : d.run = .running) {g : Tag}
    (h : slotTag (some { d with run := c.stopped i }) = some g) : slotTag (some d) = some g := by
  rw [slotTag_some] at h
  split_ifs at h
  rw [slotTag_some, hr]
  exact h

theorem slotStopRequest_keepsTags : RequestKeeps TagLaws slotStopRequest :=
  .of_sameTags (fun c i s => by
    simp only [slotStopRequest]
    split
    · exact .refl s
    · next d hd =>
      split_ifs with hr
      · have h : SameTags s (s.setSlot i (some { d with run := s.carousel.stopped i })) :=
          .setSlot s i _ fun g hg => by rw [hd]; exact slotTag_stopped hr hg
        exact h.trans ⟨rfl, rfl, rfl, rfl, rfl, fun _ _ hg => hg⟩
      · exact .refl s) .refl

theorem slotClearRequest_keepsTags : RequestKeeps TagLaws slotClearRequest :=
  .of_sameTags (fun c i s => by
    simp only [slotClearRequest]
    split
    · exact .refl s
    · split_ifs
      · exact .setSlot s i none nofun
      · exact .refl s) .refl

theorem pauseRequest_keepsTags : RequestKeeps TagLaws pauseRequest :=
  .of_sameTags (fun c _ s => by
    simp only [pauseRequest]
    split
    · simp only [pauseNow]
      split
      · split_ifs
        · exact .of_eq rfl rfl rfl rfl
        · exact .of_eq rfl rfl rfl rfl
      · exact .of_eq rfl rfl rfl rfl
      · exact .refl s
    · exact .refl s) .refl

theorem resumeRequest_keepsTags : RequestKeeps TagLaws resumeRequest :=
  .of_sameTags (fun c _ s => by
    simp only [resumeRequest]
    split_ifs
    · exact .of_eq rfl rfl rfl rfl
    · exact .of_eq rfl rfl rfl rfl) .refl

theorem condAckRequest_keepsTags : RequestKeeps TagLaws condAckRequest :=
  .of_sameTags (fun _ _ _ => .of_eq rfl rfl rfl rfl) .refl

theorem slotTag_clearCounters (o : Option SlotData) : slotTag (o.map SlotData.clearCounters) = slotTag o := by
  cases o with
  | none => rfl
  | some d => exact slotTag_congr rfl rfl

theorem SameTags.clearGroup (s : State) (g : CounterGroup) : SameTags s (Machine.clearGroup s g) := by
  cases g with
  | bankA => exact .of_setBank .a s.map.bankA.clearCounters rfl rfl rfl rfl rfl
  | bankB => exact .of_setBank .b s.map.bankB.clearCounters rfl rfl rfl rfl rfl
  | slots =>
    refine ⟨rfl, rfl, rfl, rfl, rfl, fun i g hg => ?_⟩
    have hs : (Machine.clearGroup s .slots).carousel.slots[i] = (s.carousel.slots[i]).map SlotData.clearCounters := mapAll_get _ _ i
    rwa [hs, slotTag_clearCounters] at hg
  | input | output | entry | contexts | agent => exact .of_eq rfl rfl rfl rfl

theorem countClearRequest_keepsTags : RequestKeeps TagLaws countClearRequest :=
  .of_sameTags (fun c x s => by
    simp only [countClearRequest]
    split
    · exact .clearGroup s _
    · next bank tag =>
      split
      · exact .refl s
      · exact .of_setBank bank ((s.map.bank bank).modify tag fun e => { e with counters := EntryCounters.zero })
          (Bank.fields_modify _ _ _ fun _ => rfl) rfl rfl rfl rfl) .refl

theorem configSetRequest_keepsTags : RequestKeeps TagLaws configSetRequest :=
  .of_sameTags (fun _ _ _ => .of_eq rfl rfl rfl rfl) .refl

theorem restartRequest_keepsTags : RequestKeeps TagLaws restartRequest :=
  .of_sameTags (fun _ _ s => .refl s) fun _ => .of_eq rfl rfl rfl rfl

/-- A request that only answers. -/
theorem RequestKeeps.of_answer {α : Type} {P : State → Prop} {r : Request α} (act : ∀ c y s, (r.act c y s).2 = s) (after : r.after = id) :
    RequestKeeps P r :=
  ⟨fun c y s h _ _ => by rwa [act c y s], fun s h => by rwa [after]⟩

/-! ### The blocks' own steps -/

/-- An outcome under the same laws keeps them. -/
theorem ensures_of_sameTags {s t : State} {o : Host.Outcome State Fault Refusal} (h : TagLaws s) (ho : o = .next t)
    (hs : SameTags s t) : Ensures TagLaws o :=
  ensures_of_eq ho (hs.tagLaws h)

theorem execCellClassification_keepsTags {s : State} (h : TagLaws s) : Ensures TagLaws (execCellClassification s) := by
  obtain ⟨items, t, ht, offered, b, input, q, n, rs, hb, rfl⟩ := execCellClassification_step s
  exact ensures_of_sameTags h ht (.of_setBank s.map.active b hb rfl rfl rfl rfl)

theorem execMediaAdmission_keepsTags {s : State} (h : TagLaws s) : Ensures TagLaws (execMediaAdmission s) := by
  obtain ⟨offered, i, b, media, rs, hb, -, ht⟩ := execMediaAdmission_frame s
  exact ensures_of_sameTags h ht (.of_setBank i b hb rfl rfl rfl rfl)

theorem execSyncLossResync_keepsTags {s : State} (h : TagLaws s) : Ensures TagLaws (execSyncLossResync s) := by
  obtain ⟨items, a, b, input, ha, hb, ht⟩ := execSyncLossResync_frame s
  exact ensures_of_sameTags h ht ⟨rfl, ha, hb, rfl, rfl, fun _ _ hg => hg⟩

theorem execCommitDue_keepsTags {s : State} (h : TagLaws s) : Ensures TagLaws (execCommitDue s) := by
  have cleared : SameTags s { s with map := { s.map with pendingCommit := none } } := ⟨rfl, rfl, rfl, rfl, rfl, fun _ _ hg => hg⟩
  unfold execCommitDue
  split
  · exact (ensures_next _ _).mpr h
  · split_ifs
    · split
      · next hv =>
        exact ensures_of_sameTags (TagLaws.swap (cleared.tagLaws h) hv) rfl (.of_eq rfl rfl rfl rfl)
      · exact ensures_of_sameTags h rfl (cleared.trans (.of_eq rfl rfl rfl rfl))
    · exact (ensures_next _ _).mpr h

theorem EventStep.sameTags {s t : State} (h : EventStep s t) : SameTags s t := by
  obtain ⟨k, e, rs, -, rfl⟩ := h
  exact .of_eq rfl rfl rfl rfl

theorem NoticeStep.sameTags {s t : State} (h : NoticeStep s t) : SameTags s t := by
  obtain rfl | ⟨-, mgmt, store, l, conds, seq, no, -, rfl⟩ := h
  · exact .refl _
  · exact .of_eq rfl rfl rfl rfl

theorem execWarmRestart_sameTags (s : State) : Ensures (SameTags s) (execWarmRestart s) := by
  unfold execWarmRestart
  split_ifs
  · exact (ensures_next _ _).mpr ((SameTags.warm s).trans (.choose _))
  · exact (ensures_next _ _).mpr (.refl s)

theorem execColdRestart_keepsTags {s : State} (h : TagLaws s) : Ensures TagLaws (execColdRestart s) := by
  unfold execColdRestart
  split_ifs
  · exact ensures_of_sameTags tagLaws_reset rfl (.of_eq rfl rfl rfl rfl)
  · exact (ensures_next _ _).mpr h

theorem execQueueEmptyEvent_sameTags (s : State) : Ensures (SameTags s) (execQueueEmptyEvent s) := by
  unfold execQueueEmptyEvent
  split
  · exact (ensures_next _ _).mpr (.refl s)
  · dsimp only
    split_ifs
    · exact (ensures_next _ _).mpr (.of_eq rfl rfl rfl rfl)
    · exact (ensures_next _ _).mpr (.of_eq rfl rfl rfl rfl)

/-- What stands under the same laws keeps them. -/
theorem ensures_tagLaws {s : State} {o : Host.Outcome State Fault Refusal} (h : TagLaws s) (ho : Ensures (SameTags s) o) :
    Ensures TagLaws o := fun t ht => (ho t ht).tagLaws h

/-- Every command keeps the tag laws. -/
theorem exec_keepsTags (i : Instr) {s : State} (h : TagLaws s) : Ensures TagLaws (exec i s) := by
  have agent := agentKeeps_tagLaws
  cases i with
  | hardReset => exact ensures_of_sameTags tagLaws_reset rfl (.of_eq rfl rfl rfl rfl)
  | resetNRelease => exact ensures_of_sameTags h rfl (.of_eq rfl rfl rfl rfl)
  | headerExamination b arrival =>
    obtain ⟨line, items, rs, ht⟩ := execHeaderExamination_frame b arrival s
    exact ensures_of_sameTags h ht (.of_eq rfl rfl rfl rfl)
  | cellDelivery payload =>
    obtain ⟨line, items, ht⟩ := execCellDelivery_frame payload s
    exact ensures_of_sameTags h ht (.of_eq rfl rfl rfl rfl)
  | cellClassification => exact execCellClassification_keepsTags h
  | mediaAdmission => exact execMediaAdmission_keepsTags h
  | captureHandoff =>
    obtain ⟨input, t, ht, hs⟩ := execCaptureHandoff_step s
    refine ensures_of_sameTags h ht (.trans ?_ hs.sameTags)
    exact .of_eq rfl rfl rfl rfl
  | assemblyDeadlineReached ctx =>
    obtain ⟨t, ht, hs⟩ := execAssemblyDeadlineReached_step ctx s
    exact ensures_of_sameTags h ht hs.sameTags
  | captureBindingUpdate =>
    obtain ⟨input, t, ht, hs⟩ := execCaptureBindingUpdate_step s
    refine ensures_of_sameTags h ht (.trans ?_ hs.sameTags)
    exact .of_eq rfl rfl rfl rfl
  | syncLossCaptureAbandon =>
    obtain ⟨input, items, t, ht, hs⟩ := execSyncLossCaptureAbandon_step s
    refine ensures_of_sameTags h ht (.trans ?_ hs.sameTags)
    exact .of_eq rfl rfl rfl rfl
  | syncLossResync => exact execSyncLossResync_keepsTags h
  | commitDue => exact execCommitDue_keepsTags h
  | slotDecision =>
    obtain ⟨q, sched, rs, n, -, ht⟩ := execSlotDecision_frame s
    exact ensures_of_sameTags h ht (.of_eq rfl rfl rfl rfl)
  | queueEmptyEvent => exact ensures_tagLaws h (execQueueEmptyEvent_sameTags s)
  | slotDue slot => exact ensures_tagLaws h (execSlotDue_sameTags slot s)
  | tableCellPlacement => exact ensures_tagLaws h (execTableCellPlacement_sameTags s)
  | conditionEvent k =>
    obtain ⟨t, ht, hs⟩ := execConditionEvent_step k s
    exact ensures_of_sameTags h ht hs.sameTags
  | lineCauseGone =>
    obtain ⟨t, ht, hs⟩ := execLineCauseGone_step s
    exact ensures_of_sameTags h ht hs.sameTags
  | sessionExpiry => exact (ensures_next _ _).mpr (agent.endIfExpired h)
  | completionNotice =>
    obtain ⟨t, ht, hs⟩ := execCompletionNotice_step s
    exact ensures_of_sameTags h ht hs.sameTags
  | captureReadyNotice =>
    obtain ⟨t, ht, hs⟩ := execCaptureReadyNotice_step s
    exact ensures_of_sameTags h ht hs.sameTags
  | conditionNotice =>
    obtain ⟨t, ht, hs⟩ := execConditionNotice_step s
    exact ensures_of_sameTags h ht hs.sameTags
  | warmRestart => exact ensures_tagLaws h (execWarmRestart_sameTags s)
  | coldRestart => exact execColdRestart_keepsTags h
  | identify => exact agent.identify h
  | openSession =>
    exact agent.openSession h (fun u c hu => (SameTags.of_eq (s := u) (t := u.oweAll.openReply c) rfl rfl rfl rfl).tagLaws hu)
      fun u x c _ hu => (SameTags.of_eq (s := u) (t := u.openReply c) rfl rfl rfl rfl).tagLaws hu
  | closeSession => exact agent.sessionCommand closeRequest_keepsTags h _
  | ping => exact agent.sessionCommand (.of_answer (fun _ _ _ => rfl) rfl) h _
  | status => exact agent.sessionCommand (.of_answer (fun _ _ _ => rfl) rfl) h _
  | mapPut => exact agent.sessionCommand mapPutRequest_keepsTags h _
  | mapRemove => exact agent.sessionCommand mapRemoveRequest_keepsTags h _
  | mapClear => exact agent.sessionCommand mapClearRequest_keepsTags h _
  | mapCopy => exact agent.sessionCommand mapCopyRequest_keepsTags h _
  | mapDefault => exact agent.sessionCommand mapDefaultRequest_keepsTags h _
  | mapRead => exact agent.sessionCommand mapReadRequest_keepsTags h _
  | commit => exact agent.sessionCommand commitRequest_keepsTags h _
  | commitCancel => exact agent.sessionCommand commitCancelRequest_keepsTags h _
  | ctxArm => exact agent.sessionCommand ctxArmRequest_keepsTags h _
  | ctxDisarm => exact agent.sessionCommand ctxDisarmRequest_keepsTags h _
  | storeRead => exact agent.sessionCommand (.of_answer (fun _ _ _ => rfl) rfl) h _
  | storeRelease => exact agent.sessionCommand storeReleaseRequest_keepsTags h _
  | slotDefine => exact agent.sessionCommand slotDefineRequest_keepsTags h _
  | slotWrite => exact agent.sessionCommand slotWriteRequest_keepsTags h _
  | slotPublish => exact agent.sessionCommand slotPublishRequest_keepsTags h _
  | slotStart => exact agent.sessionCommand slotStartRequest_keepsTags h _
  | slotStop => exact agent.sessionCommand slotStopRequest_keepsTags h _
  | slotClear => exact agent.sessionCommand slotClearRequest_keepsTags h _
  | slotQuery => exact agent.sessionCommand (.of_answer (fun _ _ _ => rfl) rfl) h _
  | pause => exact agent.sessionCommand pauseRequest_keepsTags h _
  | resume => exact agent.sessionCommand resumeRequest_keepsTags h _
  | condRead => exact agent.sessionCommand (.of_answer (fun _ _ _ => rfl) rfl) h _
  | condAck => exact agent.sessionCommand condAckRequest_keepsTags h _
  | countRead => exact agent.sessionCommand (.of_answer (fun _ _ _ => rfl) rfl) h _
  | countClear => exact agent.sessionCommand countClearRequest_keepsTags h _
  | configSet => exact agent.sessionCommand configSetRequest_keepsTags h _
  | configGet => exact agent.sessionCommand (.of_answer (fun _ _ _ => rfl) rfl) h _
  | tagsSet => exact agent.sessionCommand tagsSetRequest_keepsTags h _
  | restart => exact agent.sessionCommand restartRequest_keepsTags h _
  | trefEdge =>
    obtain ⟨lt, line, ht⟩ := execTrefEdge_frame s
    exact ensures_of_sameTags h ht (.of_eq rfl rfl rfl rfl)
  | unknownCommand =>
    exact (ensures_next _ _).mpr
      (agent.commandStep (.of_answer (fun _ _ _ => rfl) rfl) h (s.sessionCommandOf_step _ unknownRequest))

end Sys2Proof.Machine

namespace Sys2Proof.Proofs

open Sys2Proof.Machine Sys2Proof.Safety

/-- Settles O55: the laws, said of the entry fields and the assigned tags, are kept by every command; what a commit makes active has
passed validation, a slot starts and a tag is reserved only where no source clashes. -/
theorem stepKeepsTagLaws : Obligations.StepKeepsTagLaws := by
  unfold Obligations.StepKeepsTagLaws
  intro s t hs ht
  exact step_ensures hs (fun _ => (SameTags.of_eq (s := s) rfl rfl rfl rfl).tagLaws hs) (fun i _ hu => exec_keepsTags i hu) t ht

end Sys2Proof.Proofs
end

section
/-! PROOF. Every step keeps the long-operation record, the pending commit, the drain and the owed notices in agreement (O58). -/

namespace Sys2Proof.Machine

open Sys2Proof.Safety

/-! ### Owed notices (R148, R151) -/

/-- No filed record and no condition owes a notice. -/
def NothingOwed (s : State) : Prop :=
  (∀ r ∈ s.capture.filing, owes s.capture.store[r] = false) ∧ ∀ k, (s.agent.cond k).noticeOwed = false

theorem mem_condKinds (k : CondKind) : k ∈ condKinds := by cases k <;> decide

theorem Capture.firstOwed_eq_none_iff (c : Capture) : c.firstOwed = none ↔ ∀ r ∈ c.filing, owes c.store[r] = false := by
  simp [Capture.firstOwed]

theorem Agent.firstOwed_eq_none_iff (a : Agent) : a.firstOwed = none ↔ ∀ k, (a.cond k).noticeOwed = false := by
  simp [Agent.firstOwed, mem_condKinds]

theorem State.noticeOwed_eq_false_iff (s : State) : s.noticeOwed = false ↔ s.agent.longOp.isEnded = false ∧ NothingOwed s := by
  rw [State.noticeOwed, NothingOwed, ← Capture.firstOwed_eq_none_iff, ← Agent.firstOwed_eq_none_iff]
  simp [and_assoc]

/-- The agreement of the records, with what a closed session says of them taken apart. -/
theorem operationsSound_iff (s : State) : OperationsSound s ↔
    (∀ q, (∃ p, s.map.pendingCommit = some p ∧ p.cmdSeq = q) ↔ s.agent.longOp = .inFlight .commit q)
      ∧ (∀ q, s.agent.longOp = .inFlight .pause q → s.classifier.admission = .pausing)
      ∧ (s.classifier.admission = .paused → s.queues.media = [])
      ∧ (s.agent.session = none → s.agent.longOp = .none ∧ NothingOwed s) := by
  have h : (s.agent.longOp = .none ∧ s.noticeOwed = false) ↔ (s.agent.longOp = .none ∧ NothingOwed s) := by
    rw [State.noticeOwed_eq_false_iff]
    exact and_congr_right fun hl => by simp [hl, LongOp.isEnded]
  rw [OperationsSound, h]

/-- The operations, the drain and the session stand as they did; the media queue stays empty where it is empty. -/
structure SameOps (s t : State) : Prop where
  pendingCommit : t.map.pendingCommit = s.map.pendingCommit
  longOp : t.agent.longOp = s.agent.longOp
  admission : t.classifier.admission = s.classifier.admission
  media : s.classifier.admission = .paused → s.queues.media = [] → t.queues.media = []
  session : t.agent.session = none → s.agent.session = none

theorem SameOps.sound {s t : State} (h : SameOps s t) (hs : OperationsSound s)
    (hq : t.agent.session = none → NothingOwed s → NothingOwed t) : OperationsSound t := by
  obtain ⟨hc, hp, hm, ho⟩ := (operationsSound_iff s).mp hs
  refine (operationsSound_iff t).mpr ⟨?_, ?_, fun ha => ?_, fun ht => ?_⟩
  · rwa [h.pendingCommit, h.longOp]
  · rwa [h.longOp, h.admission]
  · rw [h.admission] at ha
    exact h.media ha (hm ha)
  · obtain ⟨hl, hn⟩ := ho (h.session ht)
    exact ⟨h.longOp.trans hl, hq ht hn⟩

theorem SameOps.refl (s : State) : SameOps s s := ⟨rfl, rfl, rfl, fun _ h => h, id⟩

/-- With no operation and nothing owed, nothing pending and the media queue empty in PAUSED, the records agree. -/
theorem operationsSound_of_none {s : State} (hp : s.map.pendingCommit = none) (hl : s.agent.longOp = .none) (hn : NothingOwed s)
    (hm : s.classifier.admission = .paused → s.queues.media = []) : OperationsSound s := by
  refine (operationsSound_iff s).mpr ⟨fun q => ?_, fun q h => ?_, hm, fun _ => ⟨hl, hn⟩⟩
  · simp [hp, hl]
  · rw [hl] at h
    cases h

/-! ### Around every command (R140 to R154) -/

theorem nothingOwed_endSession (s : State) : NothingOwed s.endSession := by
  refine ⟨fun r _ => ?_, fun k => ?_⟩
  · have h : s.endSession.capture.store[r] = setOwed false s.capture.store[r] := mapAll_get _ _ r
    rw [h]
    cases s.capture.store[r] <;> rfl
  · have h : s.endSession.agent.cond k = (s.agent.cond k).clearOwed := mapAll_get _ _ _
    rw [h]
    rfl

/-- The session's end leaves no operation, no pending commit and nothing owed (R154). -/
theorem operationsSound_endSession {s : State} (h : OperationsSound s) : OperationsSound s.endSession :=
  operationsSound_of_none rfl rfl (nothingOwed_endSession s) h.2.2.1

theorem agentKeeps_operations : AgentKeeps OperationsSound where
  unqueued s _ h := SameOps.sound (s := s) ⟨rfl, rfl, rfl, fun _ hm => hm, id⟩ h fun _ hq => hq
  endSession _ h := operationsSound_endSession h
  replyOutside s _ _ h := SameOps.sound (s := s) ⟨rfl, rfl, rfl, fun _ hm => hm, id⟩ h fun _ hq => hq
  answerRepeat s _ _ h := SameOps.sound (s := s) ⟨rfl, rfl, rfl, fun _ hm => hm, nofun⟩ h fun _ hq => hq
  advanceExpected s h := SameOps.sound (s := s) ⟨rfl, rfl, rfl, fun _ hm => hm, Option.map_eq_none_iff.mp⟩ h fun _ hq => hq
  settle s _ _ _ _ h := SameOps.sound (s := s) ⟨rfl, rfl, rfl, fun _ hm => hm, Option.map_eq_none_iff.mp⟩ h fun _ hq => hq

/-- A request touches neither operations, drain, media queue nor session. -/
structure OpsUntouched (s t : State) : Prop where
  pendingCommit : t.map.pendingCommit = s.map.pendingCommit
  longOp : t.agent.longOp = s.agent.longOp
  admission : t.classifier.admission = s.classifier.admission
  media : t.queues.media = s.queues.media
  session : t.agent.session = s.agent.session

theorem OpsUntouched.refl (s : State) : OpsUntouched s s := ⟨rfl, rfl, rfl, rfl, rfl⟩

theorem OpsUntouched.trans {s t u : State} (h : OpsUntouched s t) (h' : OpsUntouched t u) : OpsUntouched s u :=
  ⟨h'.pendingCommit.trans h.pendingCommit, h'.longOp.trans h.longOp, h'.admission.trans h.admission, h'.media.trans h.media,
    h'.session.trans h.session⟩

theorem OpsUntouched.sameOps {s t : State} (h : OpsUntouched s t) : SameOps s t :=
  ⟨h.pendingCommit, h.longOp, h.admission, fun _ hm => h.media.trans hm, fun ht => h.session.symm.trans ht⟩

/-- An open session may owe anything, so a request has only the operations to leave alone. -/
theorem RequestKeeps.of_opsUntouched {α : Type} {r : Request α} (act : ∀ c y s, OpsUntouched s (r.act c y s).2)
    (after : ∀ s, OperationsSound s → OperationsSound (r.after s)) : RequestKeeps OperationsSound r :=
  ⟨fun c y s h hs _ => (act c y s).sameOps.sound h fun ht _ => by simp [(act c y s).session.symm.trans ht] at hs, after⟩

theorem OpsUntouched.setBank (s : State) (i : BankId) (b : Bank) : OpsUntouched s (s.setBank i b) :=
  ⟨by simp, rfl, rfl, rfl, rfl⟩

theorem OpsUntouched.editShadow (f : Bank → Answer × Bank) (s : State) : OpsUntouched s (Machine.editShadow f s).2 := by
  unfold Machine.editShadow
  split
  · exact .refl s
  · exact .setBank s _ _

theorem ContextStep.opsUntouched {s t : State} (h : ContextStep s t) : OpsUntouched s t := by
  obtain ⟨cs, rs, rfl⟩ := h
  exact ⟨rfl, rfl, rfl, rfl, rfl⟩

/-- A change of the carousel and the reports alone. -/
theorem OpsUntouched.of_carousel {s t : State} (h : ∃ c rs, t = { s with carousel := c, reports := rs }) : OpsUntouched s t := by
  obtain ⟨c, rs, rfl⟩ := h
  exact ⟨rfl, rfl, rfl, rfl, rfl⟩

theorem OpsUntouched.setSlot (s : State) (i : Fin 16) (o : Option SlotData) : OpsUntouched s (s.setSlot i o) :=
  .of_carousel ⟨_, _, rfl⟩

theorem State.joinDue_frame (s : State) (i : Fin 16) : ∃ c rs, s.joinDue i = { s with carousel := c, reports := rs } := by
  unfold State.joinDue
  split_ifs
  · exact ⟨_, _, rfl⟩
  · exact ⟨_, _, rfl⟩

theorem OpsUntouched.startSlot (s : State) (i : Fin 16) (d : SlotData) : OpsUntouched s (s.startSlot i d) :=
  (OpsUntouched.setSlot s i _).trans ((OpsUntouched.of_carousel (State.joinDue_frame _ i)).trans (.of_carousel (State.choose_frame _)))

/-! ### The requests on operations and the drain (R19 to R25, R52 to R54) -/

/-- With a session open the records agree if the first three laws hold. -/
theorem operationsSound_of_session {s : State} (hs : s.agent.session.isSome = true)
    (hc : ∀ q, (∃ p, s.map.pendingCommit = some p ∧ p.cmdSeq = q) ↔ s.agent.longOp = .inFlight .commit q)
    (hp : ∀ q, s.agent.longOp = .inFlight .pause q → s.classifier.admission = .pausing)
    (hm : s.classifier.admission = .paused → s.queues.media = []) : OperationsSound s :=
  ⟨hc, hp, hm, fun h => by rw [h] at hs; cases hs⟩

/-- Nothing is pending while the record is NONE. -/
theorem pendingCommit_of_none {s : State} (h : OperationsSound s) (hl : s.agent.longOp = .none) : s.map.pendingCommit = none := by
  by_contra hp
  obtain ⟨p, hp⟩ := Option.ne_none_iff_exists'.mp hp
  have := (h.1 p.cmdSeq).mp ⟨p, hp, rfl⟩
  rw [hl] at this
  cases this

theorem State.swap_pendingCommit (s : State) : s.swap.map.pendingCommit = s.map.pendingCommit := by
  simp [State.swap]

theorem commitRequest_keepsOperations : RequestKeeps OperationsSound commitRequest where
  act c due s h hs _ := by
    simp only [commitRequest]
    split
    · next hl =>
      have hn := pendingCommit_of_none h hl
      unfold commitNow
      split
      · exact h
      · split
        · refine operationsSound_of_session hs (fun q => ?_) nofun h.2.2.1
          simp [State.swap_pendingCommit, hn]
        · exact operationsSound_of_session hs (fun q => by simp) nofun h.2.2.1
    · exact h
  after _ h := h

theorem commitCancelRequest_keepsOperations : RequestKeeps OperationsSound commitCancelRequest where
  act c _ s h hs _ := by
    simp only [commitCancelRequest]
    split
    · next q p hl hp =>
      refine operationsSound_of_session hs (fun q => ?_) (fun q hq => ?_) h.2.2.1
      · simp [hl, LongOp.finish]
      · simp [hl, LongOp.finish] at hq
    · exact h
  after _ h := h

theorem pauseRequest_keepsOperations : RequestKeeps OperationsSound pauseRequest where
  act c _ s h hs _ := by
    simp only [pauseRequest]
    split
    · next hl =>
      have hn := pendingCommit_of_none h hl
      have drain : OperationsSound { s.setAdmission .pausing with agent := { s.agent with longOp := .inFlight .pause c.seq } } :=
        operationsSound_of_session hs (fun q => by simp [hn]) (fun _ _ => rfl) nofun
      simp only [pauseNow]
      split
      · split_ifs with hm
        · refine operationsSound_of_session hs h.1 (fun q hq => ?_) fun _ => hm
          rw [State.setAdmission_agent, hl] at hq
          cases hq
        · exact drain
      · exact drain
      · exact h
    · exact h
  after _ h := h

/-- The end of an operation of one kind leaves the in-flight operations of the other kind. -/
theorem LongOp.finish_eq_inFlight {l : LongOp} {k k' : OpKind} {o : OpOutcome} {q : Byte} :
    l.finish k o = .inFlight k' q ↔ k' ≠ k ∧ l = .inFlight k' q := by
  cases l with
  | none => simp [LongOp.finish]
  | ended => simp [LongOp.finish]
  | inFlight j r =>
    by_cases h : j = k
    · rw [LongOp.finish, if_pos h]
      exact ⟨nofun, fun ⟨hne, e⟩ => by cases e; exact absurd h hne⟩
    · simp only [LongOp.finish, if_neg h]
      exact ⟨fun e => by cases e; exact ⟨h, rfl⟩, And.right⟩

theorem resumeRequest_keepsOperations : RequestKeeps OperationsSound resumeRequest where
  act c _ s h hs _ := by
    obtain ⟨hc, hp, hm, -⟩ := h
    simp only [resumeRequest]
    split_ifs with ha
    · refine operationsSound_of_session hs (fun q => ?_) (fun q hq => ?_) nofun
      · rw [State.finishOp_map, State.finishOp_agent, State.setAdmission_map, State.setAdmission_agent, LongOp.finish_eq_inFlight, hc q]
        simp
      · exact absurd rfl (LongOp.finish_eq_inFlight.mp hq).1
    · exact operationsSound_of_session hs hc (fun q hq => absurd (hp q hq) ha) nofun
  after _ h := h

/-! ### The requests that leave them alone -/

theorem closeRequest_keepsOperations : RequestKeeps OperationsSound closeRequest :=
  .of_opsUntouched (fun _ _ s => .refl s) fun _ => operationsSound_endSession

theorem mapReadRequest_keepsOperations : RequestKeeps OperationsSound mapReadRequest :=
  .of_opsUntouched (fun c x s => by
    simp only [mapReadRequest]
    split
    · exact .refl s
    · exact .refl s) fun _ h => h

theorem ctxArmRequest_keepsOperations : RequestKeeps OperationsSound ctxArmRequest :=
  .of_opsUntouched (fun _ x s => (ContextStep.arm s x.1 _).opsUntouched) fun _ h => h

theorem ctxDisarmRequest_keepsOperations : RequestKeeps OperationsSound ctxDisarmRequest :=
  .of_opsUntouched (fun _ i s => (ContextStep.setContext s i _).opsUntouched) fun _ h => h

theorem storeReleaseRequest_keepsOperations : RequestKeeps OperationsSound storeReleaseRequest :=
  .of_opsUntouched (fun c i s => by
    simp only [storeReleaseRequest]
    split
    · exact .refl s
    · exact ⟨rfl, rfl, rfl, rfl, rfl⟩) fun _ h => h

theorem slotDefineRequest_keepsOperations : RequestKeeps OperationsSound slotDefineRequest :=
  .of_opsUntouched (fun c x s => by
    simp only [slotDefineRequest]
    split
    · exact .setSlot s _ _
    · split_ifs
      · exact .setSlot s _ _
      · exact .refl s) fun _ h => h

theorem slotWriteRequest_keepsOperations : RequestKeeps OperationsSound slotWriteRequest :=
  .of_opsUntouched (fun c x s => by
    simp only [slotWriteRequest]
    split
    · exact .refl s
    · exact .setSlot s _ _) fun _ h => h

theorem slotPublishRequest_keepsOperations : RequestKeeps OperationsSound slotPublishRequest :=
  .of_opsUntouched (fun c x s => by
    simp only [slotPublishRequest]
    split
    · exact .refl s
    · exact .setSlot s _ _) fun _ h => h

theorem slotStartRequest_keepsOperations : RequestKeeps OperationsSound slotStartRequest :=
  .of_opsUntouched (fun c i s => by
    simp only [slotStartRequest]
    split
    · exact .refl s
    · split
      · exact .refl s
      · exact .refl s
      · split_ifs
        · exact .refl s
        · split
          · exact .refl s
          · exact .startSlot s _ _) fun _ h => h

theorem slotStopRequest_keepsOperations : RequestKeeps OperationsSound slotStopRequest :=
  .of_opsUntouched (fun c i s => by
    simp only [slotStopRequest]
    split
    · exact .refl s
    · split_ifs
      · exact ⟨rfl, rfl, rfl, rfl, rfl⟩
      · exact .refl s) fun _ h => h

theorem slotClearRequest_keepsOperations : RequestKeeps OperationsSound slotClearRequest :=
  .of_opsUntouched (fun c i s => by
    simp only [slotClearRequest]
    split
    · exact .refl s
    · split_ifs
      · exact .setSlot s _ _
      · exact .refl s) fun _ h => h

theorem OpsUntouched.clearGroup (s : State) (g : CounterGroup) : OpsUntouched s (Machine.clearGroup s g) := by
  cases g <;> exact ⟨rfl, rfl, rfl, rfl, rfl⟩

theorem countClearRequest_keepsOperations : RequestKeeps OperationsSound countClearRequest :=
  .of_opsUntouched (fun c x s => by
    simp only [countClearRequest]
    split
    · exact .clearGroup s _
    · split
      · exact .refl s
      · exact .setBank s _ _) fun _ h => h

theorem tagsSetRequest_keepsOperations : RequestKeeps OperationsSound tagsSetRequest :=
  .of_opsUntouched (fun c x s => by
    simp only [tagsSetRequest]
    split
    · exact .refl s
    · exact ⟨rfl, rfl, rfl, rfl, rfl⟩) fun _ h => h

theorem restartRequest_keepsOperations : RequestKeeps OperationsSound restartRequest :=
  .of_opsUntouched (fun _ _ s => .refl s) fun s h => SameOps.sound (s := s) ⟨rfl, rfl, rfl, fun _ hm => hm, id⟩ h fun _ hq => hq

/-! ### The blocks' own steps -/

/-- An outcome that leaves operations, drain and session alone, and owes nothing new to a closed session. -/
theorem ensures_of_sameOps {s t : State} {o : Host.Outcome State Fault Refusal} (h : OperationsSound s) (ho : o = .next t)
    (hs : SameOps s t) (hq : t.agent.session = none → NothingOwed s → NothingOwed t) : Ensures OperationsSound o :=
  ensures_of_eq ho (hs.sound h hq)

theorem ContextStep.nothingOwed {s t : State} (h : ContextStep s t) (hn : NothingOwed s) : NothingOwed t := by
  obtain ⟨cs, rs, rfl⟩ := h
  exact hn

theorem HandoffStep.sameOps {s t : State} (h : HandoffStep s t) : SameOps s t := by
  cases h with
  | contexts t h => exact h.opsUntouched.sameOps
  | filed r x cs rs => exact ⟨rfl, rfl, rfl, fun _ hm => hm, id⟩

/-- A message filed while the session is closed owes no notice (R92). -/
theorem HandoffStep.nothingOwed {s t : State} (h : HandoffStep s t) (ht : t.agent.session = none) (hn : NothingOwed s) : NothingOwed t := by
  cases h with
  | contexts t h => exact h.nothingOwed hn
  | filed r x cs rs free owed =>
    refine ⟨fun j hj => ?_, hn.2⟩
    have hx : owes (some x) = false := by
      rw [show s.agent.session = none from ht] at owed
      simp [owes, owed]
    by_cases hjr : j = r
    · subst hjr
      simpa only [setAt_same] using hx
    · have hj : j ∈ s.capture.filing := by simpa [hjr] using hj
      simpa only [setAt_other _ _ _ _ hjr] using hn.1 j hj

theorem EventStep.operationsSound {s t : State} (h : EventStep s t) (hs : OperationsSound s) : OperationsSound t := by
  obtain ⟨k, e, rs, he, rfl⟩ := h
  refine SameOps.sound (s := s) ⟨rfl, rfl, rfl, fun _ hm => hm, id⟩ hs fun ht hn => ⟨hn.1, fun l => ?_⟩
  by_cases hl : l = k
  · subst hl
    simp only [Agent.cond_setCond_same]
    have := he ht
    rw [hn.2 l] at this
    simpa using this
  · simpa only [Agent.cond_setCond_other _ _ hl] using hn.2 l

theorem NoticeStep.operationsSound {s t : State} (h : NoticeStep s t) (hs : OperationsSound s) : OperationsSound t := by
  obtain rfl | ⟨ho, mgmt, store, l, conds, seq, no, hl, rfl⟩ := h
  · exact hs
  · obtain ⟨hc, hp, hm, -⟩ := hs
    rcases hl with rfl | ⟨he, rfl⟩
    · exact operationsSound_of_session ho hc hp hm
    · refine operationsSound_of_session ho (fun q => (hc q).trans ⟨fun e => ?_, nofun⟩) nofun hm
      rw [e] at he
      cases he

theorem execQueueEmptyEvent_keepsOperations {s : State} (h : OperationsSound s) : Ensures OperationsSound (execQueueEmptyEvent s) := by
  unfold execQueueEmptyEvent
  split
  · exact (ensures_next _ _).mpr h
  · dsimp only
    split_ifs with ha
    · obtain ⟨hc, hp, hm, ho⟩ := (operationsSound_iff s).mp h
      refine (ensures_next _ _).mpr ((operationsSound_iff _).mpr ⟨fun q => ?_, fun q hq => ?_, fun _ => ha.2, fun hs => ?_⟩)
      · rw [State.finishOp_agent, LongOp.finish_eq_inFlight]
        exact (hc q).trans ⟨fun e => ⟨nofun, e⟩, And.right⟩
      · exact absurd rfl (LongOp.finish_eq_inFlight.mp hq).1
      · obtain ⟨hl, hn⟩ := ho hs
        refine ⟨?_, hn⟩
        rw [State.finishOp_agent]
        simp [hl, LongOp.finish]
    · exact ensures_of_sameOps h rfl ⟨rfl, rfl, rfl, fun _ hm => hm, id⟩ fun _ hq => hq

/-- With its commit gone and its record ended, a due commit leaves nothing pending and nothing in flight (R21). -/
theorem operationsSound_commitEnded {s t : State} (h : OperationsSound s) (o : OpOutcome) (hp : t.map.pendingCommit = none)
    (hl : t.agent.longOp = s.agent.longOp.finish .commit o) (ha : t.classifier.admission = s.classifier.admission)
    (hm : t.queues.media = s.queues.media) (hs : t.agent.session = s.agent.session) (hq : NothingOwed s → NothingOwed t) :
    OperationsSound t := by
  obtain ⟨-, hpause, hpaused, ho⟩ := (operationsSound_iff s).mp h
  refine (operationsSound_iff t).mpr ⟨fun q => ?_, fun q e => ?_, fun hd => ?_, fun hn => ?_⟩
  · rw [hp, hl, LongOp.finish_eq_inFlight]
    simp
  · rw [hl, LongOp.finish_eq_inFlight] at e
    rw [ha]
    exact hpause q e.2
  · rw [hm]
    exact hpaused (ha ▸ hd)
  · obtain ⟨hn, hw⟩ := ho (hs ▸ hn)
    exact ⟨by rw [hl, hn]; rfl, hq hw⟩

theorem execCommitDue_keepsOperations {s : State} (h : OperationsSound s) : Ensures OperationsSound (execCommitDue s) := by
  unfold execCommitDue
  split
  · exact (ensures_next _ _).mpr h
  · split_ifs
    · split
      · refine (ensures_next _ _).mpr (operationsSound_commitEnded h .done ?_ rfl rfl rfl rfl fun hq => hq)
        rw [State.finishOp_map, State.swap_pendingCommit]
      · exact (ensures_next _ _).mpr (operationsSound_commitEnded h (.failed _) rfl rfl rfl rfl rfl fun hq => hq)
    · exact (ensures_next _ _).mpr h

/-- A change of the carousel and the reports alone keeps the records. -/
theorem operationsSound_of_carousel {s t : State} (hs : OperationsSound s) (h : ∃ c rs, t = { s with carousel := c, reports := rs }) :
    OperationsSound t := by
  obtain ⟨c, rs, rfl⟩ := h
  exact SameOps.sound (s := s) ⟨rfl, rfl, rfl, fun _ hm => hm, id⟩ hs fun _ hq => hq

theorem execSlotDue_keepsOperations (i : Fin 16) {s : State} (h : OperationsSound s) : Ensures OperationsSound (execSlotDue i s) := by
  unfold execSlotDue
  split
  · exact (ensures_next _ _).mpr h
  · split_ifs
    · exact (ensures_next _ _).mpr
        (operationsSound_of_carousel (operationsSound_of_carousel h (s.joinDue_frame i)) (State.choose_frame _))
    · exact (ensures_next _ _).mpr h

theorem execTableCellPlacement_keepsOperations {s : State} (h : OperationsSound s) :
    Ensures OperationsSound (execTableCellPlacement s) := by
  have placed (ts : List TableCell) (c : Carousel) :
      OperationsSound { s with queues := { s.queues with table := ts }, carousel := c } :=
    SameOps.sound (s := s) ⟨rfl, rfl, rfl, fun _ hm => hm, id⟩ h fun _ hq => hq
  unfold execTableCellPlacement
  split
  · exact (ensures_next _ _).mpr h
  · split
    · exact (ensures_next _ _).mpr h
    · split_ifs
      · exact (ensures_next _ _).mpr (placed _ _)
      · exact (ensures_next _ _).mpr (operationsSound_of_carousel (placed _ _) (State.choose_frame _))
      · exact (ensures_next _ _).mpr h

theorem nothingOwed_of_reset {s : State} (hf : s.capture.filing = []) (hc : s.agent.conds = Vector.replicate 8 CondEntry.reset) :
    NothingOwed s := by
  refine ⟨fun r hr => ?_, fun k => ?_⟩
  · rw [hf] at hr
    cases hr
  · rw [Agent.cond, hc]
    simp [CondEntry.reset]

theorem operationsSound_reset : OperationsSound State.reset := operationsSound_of_none rfl rfl (nothingOwed_of_reset rfl rfl) fun _ => rfl

theorem execWarmRestart_keepsOperations {s : State} (h : OperationsSound s) : Ensures OperationsSound (execWarmRestart s) := by
  unfold execWarmRestart
  split_ifs
  · exact (ensures_next _ _).mpr (operationsSound_of_carousel
      (operationsSound_of_none (s := s.warm) rfl rfl (nothingOwed_of_reset rfl rfl) fun _ => rfl) (State.choose_frame _))
  · exact (ensures_next _ _).mpr h

theorem execColdRestart_keepsOperations {s : State} (h : OperationsSound s) : Ensures OperationsSound (execColdRestart s) := by
  unfold execColdRestart
  split_ifs
  · exact (ensures_next _ _).mpr (operationsSound_of_none rfl rfl (nothingOwed_of_reset rfl rfl) fun _ => rfl)
  · exact (ensures_next _ _).mpr h

theorem execCellClassification_keepsOperations {s : State} (h : OperationsSound s) :
    Ensures OperationsSound (execCellClassification s) := by
  obtain ⟨items, t, ht, offered, b, input, q, n, rs, -, rfl⟩ := execCellClassification_step s
  exact ensures_of_sameOps h ht ⟨MapStore.pendingCommit_setBank _ _ _, rfl, rfl, fun _ hm => hm, id⟩ fun _ hq => hq

theorem execMediaAdmission_keepsOperations {s : State} (h : OperationsSound s) : Ensures OperationsSound (execMediaAdmission s) := by
  obtain ⟨offered, i, b, media, rs, -, hm, ht⟩ := execMediaAdmission_frame s
  exact ensures_of_sameOps h ht
    ⟨MapStore.pendingCommit_setBank _ _ _, rfl, rfl, fun ha hn => (hm (by rw [ha]; nofun)).trans hn, id⟩ fun _ hq => hq

/-- Every command keeps the agreement. -/
theorem exec_keepsOperations (i : Instr) {s : State} (h : OperationsSound s) : Ensures OperationsSound (exec i s) := by
  have agent := agentKeeps_operations
  cases i with
  | hardReset => exact ensures_of_sameOps operationsSound_reset rfl ⟨rfl, rfl, rfl, fun _ hm => hm, id⟩ fun _ hq => hq
  | resetNRelease => exact ensures_of_sameOps h rfl ⟨rfl, rfl, rfl, fun _ hm => hm, id⟩ fun _ hq => hq
  | headerExamination b arrival =>
    obtain ⟨line, items, rs, ht⟩ := execHeaderExamination_frame b arrival s
    exact ensures_of_sameOps h ht ⟨rfl, rfl, rfl, fun _ hm => hm, id⟩ fun _ hq => hq
  | cellDelivery payload =>
    obtain ⟨line, items, ht⟩ := execCellDelivery_frame payload s
    exact ensures_of_sameOps h ht ⟨rfl, rfl, rfl, fun _ hm => hm, id⟩ fun _ hq => hq
  | cellClassification => exact execCellClassification_keepsOperations h
  | mediaAdmission => exact execMediaAdmission_keepsOperations h
  | captureHandoff =>
    obtain ⟨input, t, ht, hs⟩ := execCaptureHandoff_step s
    have ho := hs.sameOps
    exact ensures_of_sameOps h ht ⟨ho.pendingCommit, ho.longOp, ho.admission, ho.media, ho.session⟩ fun hn hq => hs.nothingOwed hn hq
  | assemblyDeadlineReached ctx =>
    obtain ⟨t, ht, hs⟩ := execAssemblyDeadlineReached_step ctx s
    exact ensures_of_sameOps h ht hs.opsUntouched.sameOps fun _ hq => hs.nothingOwed hq
  | captureBindingUpdate =>
    obtain ⟨input, t, ht, hs⟩ := execCaptureBindingUpdate_step s
    have ho := hs.opsUntouched.sameOps
    exact ensures_of_sameOps h ht ⟨ho.pendingCommit, ho.longOp, ho.admission, ho.media, ho.session⟩ fun _ hq => hs.nothingOwed hq
  | syncLossCaptureAbandon =>
    obtain ⟨input, items, t, ht, hs⟩ := execSyncLossCaptureAbandon_step s
    have ho := hs.opsUntouched.sameOps
    exact ensures_of_sameOps h ht ⟨ho.pendingCommit, ho.longOp, ho.admission, ho.media, ho.session⟩ fun _ hq => hs.nothingOwed hq
  | syncLossResync =>
    obtain ⟨items, a, b, input, -, -, ht⟩ := execSyncLossResync_frame s
    exact ensures_of_sameOps h ht ⟨rfl, rfl, rfl, fun _ hm => hm, id⟩ fun _ hq => hq
  | commitDue => exact execCommitDue_keepsOperations h
  | slotDecision =>
    obtain ⟨q, sched, rs, n, hm, ht⟩ := execSlotDecision_frame s
    exact ensures_of_sameOps h ht ⟨rfl, rfl, rfl, fun _ => hm, id⟩ fun _ hq => hq
  | queueEmptyEvent => exact execQueueEmptyEvent_keepsOperations h
  | slotDue slot => exact execSlotDue_keepsOperations slot h
  | tableCellPlacement => exact execTableCellPlacement_keepsOperations h
  | conditionEvent k =>
    obtain ⟨t, ht, hs⟩ := execConditionEvent_step k s
    exact ensures_of_eq ht (hs.operationsSound h)
  | lineCauseGone =>
    obtain ⟨t, ht, hs⟩ := execLineCauseGone_step s
    exact ensures_of_eq ht (hs.operationsSound h)
  | sessionExpiry => exact (ensures_next _ _).mpr (agent.endIfExpired h)
  | completionNotice =>
    obtain ⟨t, ht, hs⟩ := execCompletionNotice_step s
    exact ensures_of_eq ht (hs.operationsSound h)
  | captureReadyNotice =>
    obtain ⟨t, ht, hs⟩ := execCaptureReadyNotice_step s
    exact ensures_of_eq ht (hs.operationsSound h)
  | conditionNotice =>
    obtain ⟨t, ht, hs⟩ := execConditionNotice_step s
    exact ensures_of_eq ht (hs.operationsSound h)
  | warmRestart => exact execWarmRestart_keepsOperations h
  | coldRestart => exact execColdRestart_keepsOperations h
  | identify => exact agent.identify h
  | openSession =>
    exact agent.openSession h
      (fun u c hu => SameOps.sound (s := u) (t := u.oweAll.openReply c) ⟨rfl, rfl, rfl, fun _ hm => hm, nofun⟩ hu nofun)
      fun u x c _ hu => SameOps.sound (s := u) (t := u.openReply c) ⟨rfl, rfl, rfl, fun _ hm => hm, nofun⟩ hu nofun
  | closeSession => exact agent.sessionCommand closeRequest_keepsOperations h _
  | ping => exact agent.sessionCommand (.of_answer (fun _ _ _ => rfl) rfl) h _
  | status => exact agent.sessionCommand (.of_answer (fun _ _ _ => rfl) rfl) h _
  | mapPut => exact agent.sessionCommand (.of_opsUntouched (fun _ _ s => .editShadow _ s) fun _ => id) h _
  | mapRemove => exact agent.sessionCommand (.of_opsUntouched (fun _ _ s => .editShadow _ s) fun _ => id) h _
  | mapClear => exact agent.sessionCommand (.of_opsUntouched (fun _ _ s => .editShadow _ s) fun _ => id) h _
  | mapCopy => exact agent.sessionCommand (.of_opsUntouched (fun _ _ s => .editShadow _ s) fun _ => id) h _
  | mapDefault => exact agent.sessionCommand (.of_opsUntouched (fun _ _ s => .editShadow _ s) fun _ => id) h _
  | mapRead => exact agent.sessionCommand mapReadRequest_keepsOperations h _
  | commit => exact agent.sessionCommand commitRequest_keepsOperations h _
  | commitCancel => exact agent.sessionCommand commitCancelRequest_keepsOperations h _
  | ctxArm => exact agent.sessionCommand ctxArmRequest_keepsOperations h _
  | ctxDisarm => exact agent.sessionCommand ctxDisarmRequest_keepsOperations h _
  | storeRead => exact agent.sessionCommand (.of_answer (fun _ _ _ => rfl) rfl) h _
  | storeRelease => exact agent.sessionCommand storeReleaseRequest_keepsOperations h _
  | slotDefine => exact agent.sessionCommand slotDefineRequest_keepsOperations h _
  | slotWrite => exact agent.sessionCommand slotWriteRequest_keepsOperations h _
  | slotPublish => exact agent.sessionCommand slotPublishRequest_keepsOperations h _
  | slotStart => exact agent.sessionCommand slotStartRequest_keepsOperations h _
  | slotStop => exact agent.sessionCommand slotStopRequest_keepsOperations h _
  | slotClear => exact agent.sessionCommand slotClearRequest_keepsOperations h _
  | slotQuery => exact agent.sessionCommand (.of_answer (fun _ _ _ => rfl) rfl) h _
  | pause => exact agent.sessionCommand pauseRequest_keepsOperations h _
  | resume => exact agent.sessionCommand resumeRequest_keepsOperations h _
  | condRead => exact agent.sessionCommand (.of_answer (fun _ _ _ => rfl) rfl) h _
  | condAck => exact agent.sessionCommand (.of_opsUntouched (fun _ _ _ => ⟨rfl, rfl, rfl, rfl, rfl⟩) fun _ => id) h _
  | countRead => exact agent.sessionCommand (.of_answer (fun _ _ _ => rfl) rfl) h _
  | countClear => exact agent.sessionCommand countClearRequest_keepsOperations h _
  | configSet => exact agent.sessionCommand (.of_opsUntouched (fun _ _ _ => ⟨rfl, rfl, rfl, rfl, rfl⟩) fun _ => id) h _
  | configGet => exact agent.sessionCommand (.of_answer (fun _ _ _ => rfl) rfl) h _
  | tagsSet => exact agent.sessionCommand tagsSetRequest_keepsOperations h _
  | restart => exact agent.sessionCommand restartRequest_keepsOperations h _
  | trefEdge =>
    obtain ⟨lt, line, ht⟩ := execTrefEdge_frame s
    exact ensures_of_sameOps h ht ⟨rfl, rfl, rfl, fun _ hm => hm, id⟩ fun _ hq => hq
  | unknownCommand =>
    exact (ensures_next _ _).mpr (agent.commandStep (.of_answer (fun _ _ _ => rfl) rfl) h (s.sessionCommandOf_step _ unknownRequest))

end Sys2Proof.Machine

namespace Sys2Proof.Proofs

open Sys2Proof.Machine Sys2Proof.Safety

/-- Settles O58: only COMMIT, COMMIT_CANCEL, PAUSE, RESUME, their ends, the session's end and the restarts touch the records, and each
moves them together; with no session open no notice becomes owed. -/
theorem stepKeepsOperationsSound : Obligations.StepKeepsOperationsSound := by
  unfold Obligations.StepKeepsOperationsSound
  intro s t hs ht
  exact step_ensures hs (fun _ => SameOps.sound (s := s) ⟨rfl, rfl, rfl, fun _ hm => hm, id⟩ hs fun _ hq => hq)
    (fun i _ hu => exec_keepsOperations i hu) t ht

end Sys2Proof.Proofs
end

section
/-! PROOF. CELL_CLASSIFICATION: the command cell, the matched cell, the unmapped cell (O11, O13, O14). -/

namespace Sys2Proof.Machine

open Sys2Proof.Safety

variable {s : State} {c : Cell} {a : Lt} {rest : List ClassItem}

/-- The state in which the Classifier has taken the next delivered cell. -/
def State.classifying (s : State) (rest : List ClassItem) : State := { s with classifier := { s.classifier with input := rest } }

theorem exec_classification (h : s.classifier.input = .cell c a :: rest) :
    exec .cellClassification s = .next ((s.classifying rest).classify c a) := by
  show execCellClassification s = _
  rw [execCellClassification, h]
  rfl

@[simp] theorem State.classifying_map (s : State) (rest : List ClassItem) : (s.classifying rest).map = s.map := rfl
@[simp] theorem State.classifying_agent (s : State) (rest : List ClassItem) : (s.classifying rest).agent = s.agent := rfl

/-- A cell on the command tag is intercepted (R5, R135). -/
theorem exec_classification_command (h : s.classifier.input = .cell c a :: rest) (ht : c.hdr.tag = s.agent.cmdTag) :
    exec .cellClassification s = .next ((s.classifying rest).intercept c) := by
  rw [exec_classification h, State.classify, State.classifying_agent, if_pos ht]

theorem exec_classification_matched (h : s.classifier.input = .cell c a :: rest) (ht : c.hdr.tag ≠ s.agent.cmdTag) {e : Entry}
    (he : s.map.activeBank.find c.hdr.tag = some e) :
    exec .cellClassification s = .next ((s.classifying rest).classifyMatched e c a) := by
  rw [exec_classification h, State.classify, State.classifying_agent, if_neg ht, State.classifying_map, he]

theorem exec_classification_unmapped (h : s.classifier.input = .cell c a :: rest) (ht : c.hdr.tag ≠ s.agent.cmdTag)
    (he : s.map.activeBank.find c.hdr.tag = none) :
    exec .cellClassification s = .next ((s.classifying rest).classifyUnmapped c a) := by
  rw [exec_classification h, State.classify, State.classifying_agent, if_neg ht, State.classifying_map, he]

/-- In RESTARTING a command cell is discarded and counted (R157). -/
theorem State.intercept_restarting (h : s.agent.mode = .restarting) :
    s.intercept c = { s with agent := s.agent.countDiscarded 1 } := by
  rw [State.intercept, if_pos h]

/-- In SERVING a damaged or short cell, or one that finds the queue full, is discarded, counted and reported (R135). -/
theorem State.intercept_discarded (h : s.agent.mode = .serving)
    (hbad : c.hdr.f = true ∨ c.hdr.len.toNat < 6 ∨ 4 ≤ s.agent.cmdQueue.length) :
    s.intercept c = State.report { s with agent := s.agent.countDiscarded 1 } (.event .commandDiscard) := by
  have hm : s.agent.mode ≠ .restarting := by simp [h]
  rw [State.intercept, if_neg hm]
  exact if_pos hbad

/-- Any other command cell joins the queue (R135). -/
theorem State.intercept_queued (h : s.agent.mode = .serving) (hf : c.hdr.f = false) (hl : 6 ≤ c.hdr.len.toNat)
    (hq : s.agent.cmdQueue.length < 4) : s.intercept c = { s with agent := { s.agent with cmdQueue := s.agent.cmdQueue ++ [c] } } := by
  have hm : s.agent.mode ≠ .restarting := by simp [h]
  have hgood : ¬ (c.hdr.f = true ∨ c.hdr.len.toNat < 6 ∨ 4 ≤ s.agent.cmdQueue.length) := by
    simp [hf, hl, hq]
  rw [State.intercept, if_neg hm]
  exact if_neg hgood

/-- Under default DROP an unmapped cell is counted and gone (R7). -/
theorem State.classifyUnmapped_drop (h : s.map.activeBank.default = .drop) :
    s.classifyUnmapped c a = s.setBank s.map.active s.map.activeBank.countDropped := by
  simp only [State.classifyUnmapped, h]

/-- Under default PASS the collision guard stops a cell whose tag a source assigns (R8). -/
theorem State.classifyUnmapped_collision (h : s.map.activeBank.default = .pass) (hin : c.hdr.tag ∈ outputTags s) :
    s.classifyUnmapped c a = s.setBank s.map.active s.map.activeBank.countCollision := by
  simp only [State.classifyUnmapped, h]
  exact if_pos hin

/-- Any other unmapped cell is offered under its own tag (R7). -/
theorem State.classifyUnmapped_passed (h : s.map.activeBank.default = .pass) (hout : c.hdr.tag ∉ outputTags s) :
    s.classifyUnmapped c a = { s with classifier := { s.classifier with
      offered := s.classifier.offered
        ++ [⟨passedDescriptor c s.agent.settings.staleLimit a, s.map.active, none⟩] } } := by
  simp only [State.classifyUnmapped, h]
  exact if_neg hout

/-- A report made or not made changes the reports alone. -/
theorem State.report_unless (p : Prop) [Decidable p] (s : State) (r : Report) :
    (if p then s else s.report r) = { s with reports := if p then s.reports else s.reports ++ [r] } := by
  split_ifs <;> rfl

theorem EntryFields.forwards_eq (f : EntryFields) : f.forwards = (f.action == .forward || f.action == .forwardCapture) := by
  unfold EntryFields.forwards
  cases f.action <;> rfl

end Sys2Proof.Machine

namespace Sys2Proof.Proofs

open Sys2Proof.Machine Sys2Proof.Safety

/-- Settles O11: the three branches of the interception. -/
theorem commandCellIntercepted : Obligations.CommandCellIntercepted := by
  unfold Obligations.CommandCellIntercepted
  intro s c a rest h ht
  rw [exec_classification_command h ht]
  exact ⟨fun hm => congrArg Host.Outcome.next (State.intercept_restarting (s := s.classifying rest) hm),
    fun hm hbad => congrArg Host.Outcome.next (State.intercept_discarded (s := s.classifying rest) hm hbad),
    fun hm hf hl hq => congrArg Host.Outcome.next (State.intercept_queued (s := s.classifying rest) hm hf hl hq)⟩

/-- Settles O13: the tracker's judgement decides; what is accepted is counted, handed to capture and offered as its entry says. -/
theorem matchedCellClassified : Obligations.MatchedCellClassified := by
  unfold Obligations.MatchedCellClassified
  intro s c a rest e h ht he
  have htag := (Bank.find_some he).2
  rw [exec_classification_matched h ht he]
  refine ⟨fun hd => ?_, fun track missed gap outSeq hacc => ?_⟩
  · rw [State.classifyMatched, hd, ← htag]
    rfl
  · simp only [State.classifyMatched, hacc, State.report_unless, ← htag, ← EntryFields.forwards_eq]
    rfl

/-- Settles O14: the default action and the collision guard decide. -/
theorem unmappedCellClassified : Obligations.UnmappedCellClassified := by
  unfold Obligations.UnmappedCellClassified
  intro s c a rest h ht he
  rw [exec_classification_unmapped h ht he]
  exact ⟨fun hd => congrArg Host.Outcome.next (State.classifyUnmapped_drop (s := s.classifying rest) hd),
    fun hp hin => congrArg Host.Outcome.next (State.classifyUnmapped_collision (s := s.classifying rest) hp hin),
    fun hp hout => congrArg Host.Outcome.next (State.classifyUnmapped_passed (s := s.classifying rest) hp hout)⟩

end Sys2Proof.Proofs
end

section
/-! PROOF. Commits: COMMIT_DUE, COMMIT and COMMIT_CANCEL (O17, O42). -/

namespace Sys2Proof.Machine

open Sys2Proof.Safety

variable {s : State} {c : Command}

/-- The swap, written out bank by bank. -/
theorem State.swap_eq (s : State) : s.swap = swapped s := by
  obtain ⟨_, _, _, _, ⟨_, _, active, _⟩, _, _, _, _, _, _, _⟩ := s
  cases active <;> rfl

@[simp] theorem LongOp.finish_inFlight (k : OpKind) (q : Byte) (o : OpOutcome) : (LongOp.inFlight k q).finish k o = .ended k q o :=
  if_pos rfl

/-! ### COMMIT_DUE (R21) -/

theorem execCommitDue_early {p : PendingCommit} (hp : s.map.pendingCommit = some p) (hr : reached s.lt p.due = false) :
    execCommitDue s = .next s := by
  simp [execCommitDue, hp, hr]

theorem execCommitDue_swap {p : PendingCommit} (hp : s.map.pendingCommit = some p) (hr : reached s.lt p.due = true)
    (hv : validate s = none) :
    execCommitDue s = .next ((swapped { s with map := { s.map with pendingCommit := none } }).finishOp .commit .done) := by
  simp only [execCommitDue, hp, hr, if_true, hv, State.swap_eq]

theorem execCommitDue_fail {p : PendingCommit} (hp : s.map.pendingCommit = some p) (hr : reached s.lt p.due = true)
    {check : ConflictCheck} {tag : Tag} (hv : validate s = some (check, tag)) :
    execCommitDue s = .next (State.finishOp { s with map := { s.map with pendingCommit := none } } .commit (.failed tag)) := by
  simp only [execCommitDue, hp, hr, if_true, hv]

/-- A swap and the loss of the pending commit may come in either order. -/
theorem swapped_clearPending (s : State) : swapped { s with map := { s.map with pendingCommit := none } } =
    { swapped s with map := { (swapped s).map with pendingCommit := none } } := by
  obtain ⟨_, _, _, _, ⟨_, _, active, _⟩, _, _, _, _, _, _, _⟩ := s
  cases active <;> rfl

/-! ### COMMIT (R19, R20, R149, R185) -/

theorem commitRequest_act_inFlight (due : Option Lt) {k : OpKind} {q : Byte} (h : s.agent.longOp = .inFlight k q) :
    commitRequest.act c due s = (refusedWith .busy [1, k.toByte, q], s) := by
  simp only [commitRequest, h]
  rfl

theorem commitRequest_act_ended (due : Option Lt) {k : OpKind} {q : Byte} {o : OpOutcome} (h : s.agent.longOp = .ended k q o) :
    commitRequest.act c due s = (refusedWith .busy [2, k.toByte, q], s) := by
  simp only [commitRequest, h]
  rfl

theorem commitRequest_act_conflict (due : Option Lt) (h : s.agent.longOp = .none) {check : ConflictCheck} {tag : Tag}
    (hv : validate s = some (check, tag)) : commitRequest.act c due s = (refusedWith .conflict (conflictBytes check tag.toNat), s) := by
  simp only [commitRequest, h, commitNow, hv]

theorem commitRequest_act_now {due : Option Lt} (h : s.agent.longOp = .none) (hv : validate s = none)
    (hd : ∀ t, due = some t → reached s.lt t = true) :
    commitRequest.act c due s = (acceptedWith (commitResult none (some s.map.active.other)),
      { swapped s with agent := { s.agent with longOp := .ended .commit c.seq .done } }) := by
  have hf : due.filter (fun t => !reached s.lt t) = none := by
    simpa [Option.filter_eq_none_iff] using hd
  simp only [commitRequest, h, commitNow, hv, hf, State.swap_eq]
  congr 1
  rw [← State.swap_eq]
  rfl

theorem commitRequest_act_later {t : Lt} (h : s.agent.longOp = .none) (hv : validate s = none) (hd : reached s.lt t = false) :
    commitRequest.act c (some t) s = (acceptedWith (commitResult (some t) none),
      { s with
        map := { s.map with pendingCommit := some ⟨t, c.seq⟩ }
        agent := { s.agent with longOp := .inFlight .commit c.seq } }) := by
  have hf : (some t).filter (fun t => !reached s.lt t) = some t := by simp [Option.filter, hd]
  simp only [commitRequest, h, commitNow, hv, hf]

/-- A due time reads back from its six bytes. -/
theorem readDue_beBytes (t : Lt) (rest : List Byte) :
    readWhere (readNat 6) (fun v => some (BitVec.ofNat 48 v)) (beBytes 6 t.toNat ++ rest) = some (t, rest) := by
  have ht : t.toNat % 256 ^ 6 = t.toNat := Nat.mod_eq_of_lt t.isLt
  rw [readWhere, readNat_beBytes, ht]
  simp

/-- The due time that a COMMIT's bytes carry, present or absent (R206). -/
theorem commitRequest_parse {due : Option Lt} {six extra args : List Byte} (hlen : six.length = 6)
    (h : match due with
      | none => args = 0 :: (six ++ extra)
      | some t => args = 1 :: (beBytes 6 t.toNat ++ extra)) : commitRequest.parse args = .ok due := by
  cases due with
  | none =>
    subst h
    refine oneArg_ok _ _ extra _ ?_
    rw [← hlen]
    exact readOptional_absent _ six extra
  | some t =>
    subst h
    exact oneArg_ok _ _ extra _ (readOptional_present 6 _ t _ extra (readDue_beBytes t extra))

/-! ### COMMIT_CANCEL (R25, R186) -/

theorem commitCancelRequest_act_pending {p : PendingCommit} (hp : s.map.pendingCommit = some p)
    (hl : s.agent.longOp = .inFlight .commit p.cmdSeq) :
    commitCancelRequest.act c () s = (doneWith ([p.cmdSeq] ++ ltBytes p.due), { s with
      map := { s.map with pendingCommit := none }
      agent := { s.agent with longOp := .ended .commit p.cmdSeq .cancelled } }) := by
  simp only [commitCancelRequest, hl, hp, State.finishOp, LongOp.finish_inFlight]

/-- With no COMMIT in flight there is nothing to cancel. -/
theorem commitCancelRequest_act_refused (h : ∀ q, s.agent.longOp ≠ .inFlight .commit q) :
    commitCancelRequest.act c () s = (cancelRefusal s.agent.longOp, s) := by
  simp only [commitCancelRequest]
  split
  · next q _ hl _ => exact absurd hl (h q)
  · rfl

end Sys2Proof.Machine

namespace Sys2Proof.Proofs

open Sys2Proof.Machine Sys2Proof.Safety

/-- Settles O17: not due, swapped, or failed. -/
theorem commitFallsDue : Obligations.CommitFallsDue := by
  unfold Obligations.CommitFallsDue
  refine fun s p hp hl => ⟨execCommitDue_early hp, fun hr hv => ?_, fun check tag hr hv => ?_⟩
  · refine (execCommitDue_swap hp hr hv).trans ?_
    have hl : (swapped s).agent.longOp = .inFlight .commit p.cmdSeq := hl
    simp only [swapped_clearPending, State.finishOp, hl, LongOp.finish_inFlight]
    rfl
  · refine (execCommitDue_fail hp hr hv).trans ?_
    rw [State.finishOp]
    simp only [hl, LongOp.finish_inFlight]

/-- Settles O42: each state of the long-operation record is answered as R149 and R186 say; with none, validation decides, then the due time. -/
theorem commitAndCancelExecuted : Obligations.CommitAndCancelExecuted := by
  unfold Obligations.CommitAndCancelExecuted
  refine ⟨fun s c rest x due six extra h hlen hargs => ?_, fun s c rest x h => ?_⟩
  · have hp := commitRequest_parse hlen hargs
    have run {a : Answer} {u : State} := State.sessionCommand_act (a := a) (u := u) commitRequest h hp rfl
    refine ⟨fun k q hl => ?_, fun k q o hl => ?_, fun check tag hl hv => ?_, fun hl hv hd => ?_, fun t hl hv hd hr => ?_⟩
    · exact congrArg Host.Outcome.next (run (commitRequest_act_inFlight (s := s.taken rest x) due hl) rfl)
    · exact congrArg Host.Outcome.next (run (commitRequest_act_ended (s := s.taken rest x) due hl) rfl)
    · exact congrArg Host.Outcome.next (run (commitRequest_act_conflict (s := s.taken rest x) due hl hv) rfl)
    · exact congrArg Host.Outcome.next (run (commitRequest_act_now (s := s.taken rest x) hl hv hd) rfl)
    · subst hd
      exact congrArg Host.Outcome.next (run (commitRequest_act_later (s := s.taken rest x) hl hv hr) rfl)
  · have run {a : Answer} {u : State} := State.sessionCommand_act (a := a) (u := u) (y := ()) commitCancelRequest h rfl rfl
    have refused (hl : ∀ q, s.agent.longOp ≠ .inFlight .commit q) : exec .commitCancel s =
        .next (executed s s c rest x (cancelRefusal s.agent.longOp)) :=
      congrArg Host.Outcome.next (run (commitCancelRequest_act_refused (s := s.taken rest x) hl) rfl)
    refine ⟨fun p hp hl => ?_, fun hl => ?_, fun q hl => ?_, fun k q o hl => ?_⟩
    · exact congrArg Host.Outcome.next (run (commitCancelRequest_act_pending (s := s.taken rest x) hp hl) rfl)
    · rw [refused (by simp [hl]), hl]
      rfl
    · rw [refused (by simp [hl]), hl]
      rfl
    · rw [refused (by simp [hl]), hl]
      rfl

end Sys2Proof.Proofs
end

section
/-! PROOF. The entry image and the commands of the map: MAP_PUT, MAP_REMOVE, MAP_CLEAR, MAP_COPY, MAP_DEFAULT, MAP_READ (O8, O39, O40, O41). -/

namespace Sys2Proof.Machine

open Sys2Proof.Safety

/-! ### The entry image (R173, R180, R206, R207) -/

/-- An optional item as a result lays it out spells its value. -/
theorem spellsOptional_optBytes {α : Type} (w : Nat) (f : α → List Byte) (n : α → Nat) (hf : ∀ x, f x = beBytes w (n x))
    (o : Option α) :
    SpellsOptional w (o.map n) (optBytes w f o) := by
  cases o with
  | none => exact ⟨List.replicate w 0, by simp, rfl⟩
  | some x => exact congrArg (1 :: ·) (hf x)

/-- An optional argument reads back from any bytes that spell it. -/
theorem readOptional_spells {α : Type} {w : Nat} {r : Reader α} {n : α → Nat} {o : Option α} {bytes : List Byte} (rest : List Byte)
    (h : SpellsOptional w (o.map n) bytes) (hr : ∀ x, o = some x → r (beBytes w (n x) ++ rest) = some (x, rest)) :
    readOptional w r (bytes ++ rest) = some (o, rest) := by
  cases o with
  | none =>
    obtain ⟨any, rfl, rfl⟩ := h
    exact readOptional_absent r any rest
  | some x =>
    have h : bytes = 1 :: beBytes w (n x) := h
    rw [h]
    exact readOptional_present w r x _ rest (hr x rfl)

theorem readIndex_beBytes {n : Nat} (i : Fin n) (rest : List Byte) (hn : n ≤ 256) :
    readIndex n (beBytes 1 i.val ++ rest) = some (i, rest) := by
  have h := readIndex_byte n i rest hn
  simpa [beBytes] using h

theorem constraint_ok {b : Bool} (pos : Nat) (h : b = true) : constraint pos b = .ok () := if_pos h

theorem entryImage_spells (f : EntryFields) : SpellsEntry f (entryImage f) :=
  ⟨_, _, _, spellsOptional_optBytes 2 tagBytes BitVec.toNat (fun _ => rfl) f.outputTag,
    by simpa using spellsOptional_optBytes 4 (beBytes 4) id (fun _ => rfl) f.staleLimit,
    spellsOptional_optBytes 1 (fun c : Fin 8 => [BitVec.ofNat 8 c.val]) Fin.val (fun c => by simp [beBytes]) f.context,
    by simp [entryImage, tagBytes]⟩

/-- MAP_PUT reads a legal entry from any bytes that spell it, whatever follows. -/
theorem mapPutArgs_spells {f : EntryFields} {bytes : List Byte} (extra : List Byte) (hf : EntryLegal f) (h : SpellsEntry f bytes) :
    mapPutArgs (bytes ++ extra) = .ok f := by
  obtain ⟨out, limit, ctx, hout, hlimit, hctx, rfl⟩ := h
  obtain ⟨htag, hfw, hrange, hcap⟩ := hf
  have c3 : (f.outputTag.isNone || f.action == .forward || f.action == .forwardCapture) = true := by
    cases ho : f.outputTag with
    | none => rfl
    | some t =>
      have := (hfw t ho).2
      rw [EntryFields.forwards_eq] at this
      simpa using this
  have c9 : (f.context.isSome == (f.action == .capture || f.action == .forwardCapture)) = true := by
    rw [hcap, EntryFields.captures]
    cases f.action <;> rfl
  have r3 (rest : List Byte) : readOptional 2 readTag (out ++ rest) = some (f.outputTag, rest) :=
    readOptional_spells rest hout fun t ht => readTag_tagBytes t rest (hfw t ht).1
  have r8 (rest : List Byte) : readOptional 4 (readRange 4 250 2500000) (limit ++ rest) = some (f.staleLimit, rest) := by
    refine readOptional_spells (n := id) rest (by simpa using hlimit) fun n hn => ?_
    obtain ⟨h1, h2⟩ := hrange n hn
    exact readRange_beBytes 4 250 2500000 n rest (by omega) h1 h2
  have r9 (rest : List Byte) : readOptional 1 (readIndex 8) (ctx ++ rest) = some (f.context, rest) :=
    readOptional_spells rest hctx fun c _ => readIndex_beBytes c rest (by decide)
  have shape : (beBytes 2 f.inputTag.toNat ++ f.action.toByte :: (out ++ [f.numbering.toByte, flagByte f.restamp, f.damage.toByte,
      f.stale.toByte] ++ limit ++ ctx)) ++ extra = tagBytes f.inputTag ++ (f.action.toByte :: (out ++ (f.numbering.toByte ::
      flagByte f.restamp :: f.damage.toByte :: f.stale.toByte :: (limit ++ (ctx ++ extra))))) := by simp [tagBytes]
  simp only [mapPutArgs, shape, argument_ok _ _ _ _ _ (readTag_tagBytes f.inputTag _ htag),
    argument_ok _ _ _ _ _ (readAction_toByte f.action _), argument_ok _ _ _ _ _ (r3 _), constraint_ok _ c3,
    argument_ok _ _ _ _ _ (readNumbering_toByte f.numbering _), argument_ok _ _ _ _ _ (readFlag_flagByte f.restamp _),
    argument_ok _ _ _ _ _ (readDamage_toByte f.damage _), argument_ok _ _ _ _ _ (readStale_toByte f.stale _),
    argument_ok _ _ _ _ _ (r8 _), argument_ok _ _ _ _ _ (r9 _), constraint_ok _ c9, bind, Except.bind, pure, Except.pure]

/-! ### Edits of the shadow bank (R12, R48) -/

theorem State.setBank_withBank (s : State) (i : BankId) (b : Bank) : s.setBank i b = withBank s i b := by cases i <;> rfl

/-- The shadow bank put back changes nothing. -/
@[simp] theorem withBank_shadow (s : State) : withBank s s.map.shadowId s.map.shadowBank = s := by
  rw [← State.setBank_withBank, State.setBank, MapStore.shadowBank, MapStore.setBank_bank]

theorem editShadow_busy {s : State} {p : PendingCommit} (f : Bank → Answer × Bank) (hp : s.map.pendingCommit = some p) :
    editShadow f s = (refusedWith .busy ([p.cmdSeq] ++ ltBytes p.due), s) := by
  simp only [editShadow, hp]

theorem editShadow_free {s : State} (f : Bank → Answer × Bank) (hp : s.map.pendingCommit = none) :
    editShadow f s = ((f s.map.shadowBank).1, withBank s s.map.shadowId (f s.map.shadowBank).2) := by
  simp only [editShadow, hp, State.setBank_withBank]

theorem admissionsDone_iff (s : State) : admissionsDone s = true ↔ s.classifier.offered = [] := List.isEmpty_iff

/-- A request that the Map Store takes only after the admissions, and that asks for nothing beyond its act (R48). -/
structure MapRequest {α : Type} (r : Request α) : Prop where
  ready : ∀ y s, r.ready y s = admissionsDone s
  mark : ∀ y, r.mark y = none
  after : ∀ s, r.after s = s

section

variable {α : Type} {r : Request α} {s : State} {code : Byte} {c : Command} {rest : List Cell} {x : Session} {y : α}

/-- While an offer waits the command is not taken (log 21). -/
theorem MapRequest.waits (hr : MapRequest r) (h : InSequence s code c rest x) (hp : r.parse c.args = .ok y)
    (ho : s.classifier.offered ≠ []) : s.sessionCommand code r = s := by
  refine State.sessionCommand_notReady r h y hp ?_
  rw [hr.ready, Bool.eq_false_iff]
  exact fun e => ho ((admissionsDone_iff _).mp e)

/-- With none waiting it is executed. -/
theorem MapRequest.act {u : State} {a : Answer} (hr : MapRequest r) (h : InSequence s code c rest x) (hp : r.parse c.args = .ok y)
    (ho : s.classifier.offered = []) (ha : r.act c y (s.taken rest x) = (a, u.taken rest x)) (hq : u.agent.replySeq = s.agent.replySeq) :
    s.sessionCommand code r = executed s u c rest x a := by
  have hready : r.ready y (s.unqueued rest) = true := (hr.ready y _).trans ((admissionsDone_iff _).mpr ho)
  rw [State.sessionCommand_act r h hp hready ha hq, hr.mark, hr.after]

/-- An edit is refused BUSY while a commit is pending (R12). -/
theorem MapRequest.busy {p : PendingCommit} {f : Bank → Answer × Bank} (hr : MapRequest r) (h : InSequence s code c rest x)
    (hp : r.parse c.args = .ok y) (ho : s.classifier.offered = []) (hf : r.act c y (s.taken rest x) = editShadow f (s.taken rest x))
    (hc : s.map.pendingCommit = some p) :
    s.sessionCommand code r = executed s s c rest x ⟨.refused, .busy, [p.cmdSeq] ++ beBytes 6 p.due.toNat⟩ :=
  hr.act (u := s) h hp ho (hf.trans (editShadow_busy f hc)) rfl

/-- An edit taken leaves its bank in the shadow's place (R13 to R17). -/
theorem MapRequest.edits {f : Bank → Answer × Bank} {a : Answer} {b : Bank} (hr : MapRequest r) (h : InSequence s code c rest x)
    (hp : r.parse c.args = .ok y) (ho : s.classifier.offered = []) (hf : r.act c y (s.taken rest x) = editShadow f (s.taken rest x))
    (hc : s.map.pendingCommit = none) (hb : f s.map.shadowBank = (a, b)) :
    s.sessionCommand code r = executed s (withBank s s.map.shadowId b) c rest x a := by
  refine hr.act (u := withBank s s.map.shadowId b) h hp ho (hf.trans ((editShadow_free (s := s.taken rest x) f hc).trans ?_)) rfl
  have hb : f (s.taken rest x).map.shadowBank = (a, b) := hb
  rw [hb]
  rfl

/-- An edit refused for the shadow bank's sake leaves everything (R13, R14). -/
theorem MapRequest.refuses {f : Bank → Answer × Bank} {a : Answer} (hr : MapRequest r) (h : InSequence s code c rest x)
    (hp : r.parse c.args = .ok y) (ho : s.classifier.offered = []) (hf : r.act c y (s.taken rest x) = editShadow f (s.taken rest x))
    (hc : s.map.pendingCommit = none) (hb : f s.map.shadowBank = (a, s.map.shadowBank)) :
    s.sessionCommand code r = executed s s c rest x a := by
  rw [hr.edits h hp ho hf hc hb, withBank_shadow]

end

/-- MAP_CLEAR's edit: no entry, default DROP, the bank counters kept (R15). -/
def clearEdit (b : Bank) : Answer × Bank := (doneWith [], { b with entries := [], default := .drop })

/-- MAP_COPY's edit, from the bank `active` (R16). -/
def copyEdit (active b : Bank) : Answer × Bank := (doneWith (countBytes active.entries.length ++ [active.default.toByte]), copyBank active b)

/-- MAP_DEFAULT's edit, answered with the default it replaces (R17). -/
def defaultEdit (d : DefaultAction) (b : Bank) : Answer × Bank := (doneWith [b.default.toByte], { b with default := d })

section

variable (c : Command) (s : State)

theorem mapPutRequest_act (f : EntryFields) : mapPutRequest.act c f s = editShadow (putEntry f s.agent.cmdTag) s := rfl
theorem mapRemoveRequest_act (t : Tag) : mapRemoveRequest.act c t s = editShadow (removeEntry t) s := rfl
theorem mapClearRequest_act : mapClearRequest.act c () s = editShadow clearEdit s := rfl
theorem mapCopyRequest_act : mapCopyRequest.act c () s = editShadow (copyEdit s.map.activeBank) s := rfl
theorem mapDefaultRequest_act (d : DefaultAction) : mapDefaultRequest.act c d s = editShadow (defaultEdit d) s := rfl

end

theorem mapRequest_put : MapRequest mapPutRequest := ⟨fun _ _ => rfl, fun _ => rfl, fun _ => rfl⟩
theorem mapRequest_remove : MapRequest mapRemoveRequest := ⟨fun _ _ => rfl, fun _ => rfl, fun _ => rfl⟩
theorem mapRequest_clear : MapRequest mapClearRequest := ⟨fun _ _ => rfl, fun _ => rfl, fun _ => rfl⟩
theorem mapRequest_copy : MapRequest mapCopyRequest := ⟨fun _ _ => rfl, fun _ => rfl, fun _ => rfl⟩
theorem mapRequest_default : MapRequest mapDefaultRequest := ⟨fun _ _ => rfl, fun _ => rfl, fun _ => rfl⟩
theorem mapRequest_read : MapRequest mapReadRequest := ⟨fun _ _ => rfl, fun _ => rfl, fun _ => rfl⟩

/-! ### What each edit does to a bank (R13, R14) -/

theorem putEntry_conflict {f : EntryFields} {cmdTag : Tag} (b : Bank) (h : f.inputTag = cmdTag) :
    putEntry f cmdTag b = (refusedWith .conflict (conflictBytes .commandTag f.inputTag.toNat), b) := if_pos h

theorem putEntry_full {f : EntryFields} {cmdTag : Tag} {b : Bank} (h : f.inputTag ≠ cmdTag) (hn : 256 ≤ b.entries.length)
    (hk : (b.find f.inputTag).isSome = false) : putEntry f cmdTag b = (refusedWith .mapFull [], b) :=
  (if_neg h).trans (if_pos ⟨hn, hk⟩)

theorem putEntry_put {f : EntryFields} {cmdTag : Tag} {b : Bank} (h : f.inputTag ≠ cmdTag)
    (hn : b.entries.length < 256 ∨ (b.find f.inputTag).isSome = true) :
    putEntry f cmdTag b =
      (doneWith ([flagByte (!(b.find f.inputTag).isSome == Config.insertedIsSet)]
          ++ countBytes (insertEntry (Entry.fresh f) b.entries).length),
        { b with entries := insertEntry (Entry.fresh f) b.entries }) := by
  refine (if_neg h).trans (if_neg fun ⟨hfull, hk⟩ => ?_)
  rcases hn with hn | hn
  · exact absurd hfull (not_le.mpr hn)
  · rw [hk] at hn
    cases hn

/-- The flag of MAP_PUT's reply: replaced or inserted, in the polarity of log 15. -/
theorem insertedFlag (known : Bool) : flagByte (!known == Config.insertedIsSet) =
    if known = true then flagByte (!Config.insertedIsSet) else flagByte Config.insertedIsSet := by
  cases known <;> simp

theorem removeEntry_missing {t : Tag} {b : Bank} (h : b.find t = none) : removeEntry t b = (refusedWith .notFound [], b) := by
  simp only [removeEntry, h]

theorem removeEntry_found {t : Tag} {b : Bank} (h : (b.find t).isSome = true) :
    removeEntry t b = (doneWith (countBytes (b.entries.filter fun e => e.fields.inputTag != t).length),
      { b with entries := b.entries.filter fun e => e.fields.inputTag != t }) := by
  obtain ⟨e, he⟩ := Option.isSome_iff_exists.mp h
  simp only [removeEntry, he]

/-! ### MAP_READ (R184, R207) -/

theorem optBytes_length {α : Type} (w : Nat) (f : α → List Byte) (hf : ∀ x, (f x).length = w) (o : Option α) :
    (optBytes w f o).length = w + 1 := by
  cases o <;> simp [optBytes, hf]

theorem entryImage_length (f : EntryFields) : (entryImage f).length = 17 := by
  simp [entryImage, tagBytes, optBytes_length]

theorem seq_byte (q : Seq) : q.zeroExtend 8 = BitVec.ofNat 8 q.toNat := BitVec.eq_of_toNat_eq (by simp)

/-- The mode of a tracking record with its last accepted sequence, as MAP_READ reports it: 3 bytes (R209). -/
theorem trackMode_bytes (m : TrackMode) : [m.toByte] ++ optBytes 1 (fun q : Seq => [q.zeroExtend 8]) m.last =
    match m with
    | .unseen => [0, 0, 0]
    | .tracking l => [1, 1, BitVec.ofNat 8 l.toNat]
    | .resync l => [2, 1, BitVec.ofNat 8 l.toNat] := by
  cases m with
  | unseen => rfl
  | tracking q => exact congrArg ([1, 1, ·]) (seq_byte q)
  | resync q => exact congrArg ([2, 1, ·]) (seq_byte q)

theorem trackMode_bytes_length (m : TrackMode) : (optBytes 1 (fun q : Seq => [q.zeroExtend 8]) m.last).length = 2 :=
  optBytes_length 1 _ (fun _ => rfl) _

/-- The reply of MAP_READ holds 55 bytes (R207). -/
theorem mapReadResult_length (i : BankId) (active : Bool) (e : Entry) : (mapReadResult i active e).length = 55 := by
  simp [mapReadResult, entryImage_length, trackMode_bytes_length, EntryCounters.bytes, counterBytes]

/-- The reply of MAP_READ, item by item (R207; log 18). -/
theorem mapReadResult_eq (i : BankId) (active : Bool) (e : Entry) :
    mapReadResult i active e = [i.toByte, flagByte active] ++ entryImage e.fields
      ++ ([e.track.mode.toByte] ++ optBytes 1 (fun q : Seq => [q.zeroExtend 8]) e.track.mode.last)
      ++ [BitVec.ofNat 8 e.track.nextOut.toNat] ++ beBytes 4 e.counters.matched.toNat ++ beBytes 4 e.counters.queued.toNat
      ++ beBytes 4 e.counters.dropDamaged.toNat ++ beBytes 4 e.counters.dropCongestion.toNat ++ beBytes 4 e.counters.dropPaused.toNat
      ++ beBytes 4 e.counters.dropDuplicate.toNat ++ beBytes 4 e.counters.gapCells.toNat
      ++ beBytes 4 e.counters.discontinuities.toNat := by
  simp only [mapReadResult, EntryCounters.bytes, counterBytes, seq_byte, List.append_assoc]

theorem flagByte_decide (p : Prop) [Decidable p] : flagByte (decide p) = if p then 1 else 0 := by
  by_cases h : p <;> simp [flagByte, h]

theorem mapReadRequest_act_missing {s : State} {c : Command} {i : BankId} {t : Tag} (h : (s.map.bank i).find t = none) :
    mapReadRequest.act c (i, t) s = (refusedWith .notFound [], s) := by
  simp only [mapReadRequest, h]

theorem mapReadRequest_act_found {s : State} {c : Command} {i : BankId} {t : Tag} {e : Entry} (h : (s.map.bank i).find t = some e) :
    mapReadRequest.act c (i, t) s = (doneWith (mapReadResult i (decide (i = s.map.active)) e), s) := by
  simp only [mapReadRequest, h]

end Sys2Proof.Machine

namespace Sys2Proof.Proofs

open Sys2Proof.Machine Sys2Proof.Safety

/-- Settles O8: the image spells the entry, and each argument's reader gives its field back. -/
theorem entryImageRoundTrip : Obligations.EntryImageRoundTrip := by
  unfold Obligations.EntryImageRoundTrip
  exact fun f bytes extra hf => ⟨entryImage_spells f, mapPutArgs_spells extra hf⟩

/-- Settles O39: BUSY, then the three outcomes of the put; insertion keeps the bank in ascending input tag. -/
theorem mapPutExecuted : Obligations.MapPutExecuted := by
  unfold Obligations.MapPutExecuted
  refine ⟨fun s c rest x f bytes extra h hf hs hargs => ?_, fun e es hes => ⟨insertEntry_ascending e es hes, mem_insertEntry e es hes⟩⟩
  have hp : mapPutRequest.parse c.args = .ok f := hargs ▸ mapPutArgs_spells extra hf hs
  refine ⟨fun ho => congrArg Host.Outcome.next (mapRequest_put.waits h hp ho), fun ho => ⟨fun p hc => ?_, fun hc ht => ?_,
    fun hc ht hn hk => ?_, fun hc ht hn => ?_⟩⟩
  · exact congrArg Host.Outcome.next (mapRequest_put.busy h hp ho (mapPutRequest_act _ _ _) hc)
  · exact congrArg Host.Outcome.next (mapRequest_put.refuses h hp ho (mapPutRequest_act _ _ _) hc (putEntry_conflict _ ht))
  · exact congrArg Host.Outcome.next (mapRequest_put.refuses h hp ho (mapPutRequest_act _ _ _) hc (putEntry_full ht hn hk))
  · have hput := mapRequest_put.edits h hp ho (mapPutRequest_act _ _ _) hc (putEntry_put ht hn)
    rw [insertedFlag] at hput
    exact congrArg Host.Outcome.next hput

/-- Settles O40: the four edits, each BUSY first. -/
theorem shadowEditsExecuted : Obligations.ShadowEditsExecuted := by
  unfold Obligations.ShadowEditsExecuted
  intro s c rest x tag d extra htag
  have remove (hargs : c.args = beBytes 2 tag.toNat ++ extra) : mapRemoveRequest.parse c.args = .ok tag :=
    hargs ▸ oneArg_ok readTag _ extra tag (readTag_tagBytes tag extra htag)
  have default (hargs : c.args = d.toByte :: extra) : mapDefaultRequest.parse c.args = .ok d :=
    hargs ▸ oneArg_ok readDefault _ extra d (readDefault_toByte d extra)
  have next {t u : State} (h : t = u) : Host.Outcome.next (φ := Fault) (ρ := Refusal) t = .next u := congrArg _ h
  refine ⟨fun ho => ⟨fun h ha => ?_, fun h => ?_, fun h => ?_, fun h ha => ?_⟩, fun ho =>
    ⟨fun p hc => ⟨fun h ha => ?_, fun h => ?_, fun h => ?_, fun h ha => ?_⟩,
      fun hc => ⟨fun h ha hk => ?_, fun h ha hk => ?_, fun h => ?_, fun h => ?_, fun h ha => ?_⟩⟩⟩
  · exact next (mapRequest_remove.waits h (remove ha) ho)
  · exact next (mapRequest_clear.waits h rfl ho)
  · exact next (mapRequest_copy.waits h rfl ho)
  · exact next (mapRequest_default.waits h (default ha) ho)
  · exact next (mapRequest_remove.busy h (remove ha) ho (mapRemoveRequest_act _ _ _) hc)
  · exact next (mapRequest_clear.busy h rfl ho (mapClearRequest_act _ _) hc)
  · exact next (mapRequest_copy.busy h rfl ho (mapCopyRequest_act _ _) hc)
  · exact next (mapRequest_default.busy h (default ha) ho (mapDefaultRequest_act _ _ _) hc)
  · exact next (mapRequest_remove.refuses h (remove ha) ho (mapRemoveRequest_act _ _ _) hc (removeEntry_missing hk))
  · exact next (mapRequest_remove.edits h (remove ha) ho (mapRemoveRequest_act _ _ _) hc (removeEntry_found hk))
  · exact next (mapRequest_clear.edits h rfl ho (mapClearRequest_act _ _) hc rfl)
  · exact next (mapRequest_copy.edits h rfl ho (mapCopyRequest_act _ _) hc rfl)
  · exact next (mapRequest_default.edits h (default ha) ho (mapDefaultRequest_act _ _ _) hc rfl)

/-- Settles O41: the 55 bytes are the model's own, laid out item by item. -/
theorem mapReadExecuted : Obligations.MapReadExecuted := by
  unfold Obligations.MapReadExecuted
  intro s c rest x bank tag extra h htag hargs
  have hp : mapReadRequest.parse c.args = .ok (bank, tag) :=
    hargs ▸ twoArgs_ok readBank readTag _ _ extra bank tag (readBank_toByte bank _) (readTag_tagBytes tag extra htag)
  refine ⟨fun ho => congrArg Host.Outcome.next (mapRequest_read.waits h hp ho), fun ho hk => ?_, fun e ho hk => ?_⟩
  · exact congrArg Host.Outcome.next (mapRequest_read.act (u := s) h hp ho (mapReadRequest_act_missing (s := s.taken rest x) hk) rfl)
  · have hread := mapRequest_read.act (u := s) h hp ho (mapReadRequest_act_found (s := s.taken rest x) hk) rfl
    have hlen := mapReadResult_length bank (decide (bank = s.map.active)) e
    rw [mapReadResult_eq, trackMode_bytes, flagByte_decide] at hread hlen
    exact ⟨hlen, congrArg Host.Outcome.next hread⟩

end Sys2Proof.Proofs
end

section
/-! PROOF. COUNT_READ, group by group (O49). -/

namespace Sys2Proof.Machine

open Sys2Proof.Safety

/-! ### Its arguments (R198) -/

/-- The groups that COUNT_READ reads whole. -/
def CounterGroup.whole : CounterGroup → Bool
  | .entry | .contexts | .slots => false
  | _ => true

/-- The groups that COUNT_READ reads in two parts. -/
def CounterGroup.parted : CounterGroup → Bool
  | .contexts | .slots => true
  | _ => false

/-- COUNT_READ's first argument: any group but the entry group. -/
theorem countGroup_ok {g : CounterGroup} (more : List Byte) (h : g ≠ .entry) :
    argument 1 (readWhere readGroup fun g => if g = .entry then none else some g) (g.toByte :: more) = .ok (g, more) :=
  argument_ok _ _ _ _ _ (by rw [readWhere, readGroup_toByte]; simp [h])

theorem countReadArgs_whole {g : CounterGroup} (more : List Byte) (h : g.whole = true) :
    countReadArgs (g.toByte :: more) = .ok (g, more.headD Config.missingPart) := by
  have hg : g ≠ .entry := by rintro rfl; cases h
  rw [countReadArgs, countGroup_ok more hg]
  cases g with
  | entry | contexts | slots => cases h
  | _ => rfl

theorem countReadArgs_entry (more : List Byte) : countReadArgs (5 :: more) = .error 1 := by
  have h : argument 1 (readWhere readGroup fun g => if g = .entry then none else some g) (5 :: more) = .error 1 := by
    have hg : readGroup (5 :: more) = some (.entry, more) := readGroup_toByte .entry more
    simp only [argument, readWhere, hg]
    rfl
  rw [countReadArgs, h]
  rfl

theorem countReadArgs_parted {g : CounterGroup} {part : Byte} (extra : List Byte) (h : g.parted = true) (hp : part.toNat ≤ 1) :
    countReadArgs (g.toByte :: part :: extra) = .ok (g, part) := by
  have hg : g ≠ .entry := by rintro rfl; cases h
  have harg := argument_ok 2 _ _ _ _ (readRange_byte 0 1 part extra (Nat.zero_le _) hp)
  have hbyte : BitVec.ofNat 8 part.toNat = part := by simp
  rw [countReadArgs, countGroup_ok _ hg]
  cases g with
  | contexts | slots => simp only [bind, Except.bind, harg, pure, Except.pure, hbyte]
  | _ => cases h

theorem countReadArgs_noPart {g : CounterGroup} {part : Byte} (extra : List Byte) (h : g.parted = true) (hp : 2 ≤ part.toNat) :
    countReadArgs (g.toByte :: part :: extra) = .error 2 := by
  have hg : g ≠ .entry := by rintro rfl; cases h
  have harg : argument 2 (readRange 1 0 1) (part :: extra) = .error 2 := by
    have : ¬ part.toNat ≤ 1 := by omega
    simp [argument, readRange, readWhere, readNat_byte, this]
  rw [countReadArgs, countGroup_ok _ hg]
  cases g with
  | contexts | slots => simp only [bind, Except.bind, harg]
  | _ => cases h

/-! ### Its answer -/

/-- COUNT_READ answers with the group, the part and the counts, and changes nothing. -/
theorem countRead_done {s : State} {c : Command} {rest : List Cell} {x : Session} {g : CounterGroup} {part : Byte}
    {counts : List Byte} (h : InSequence s 0x63 c rest x) (hp : countReadArgs c.args = .ok (g, part))
    (hc : groupCounts s part g = counts) :
    exec .countRead s = .next (executed s s c rest x ⟨.done, .none, [g.toByte, part] ++ counts⟩) := by
  subst hc
  exact congrArg Host.Outcome.next (State.sessionCommand_act (u := s) countReadRequest h hp rfl rfl rfl)

theorem countRead_refused {s : State} {c : Command} {rest : List Cell} {x : Session} {pos : Nat} (h : InSequence s 0x63 c rest x)
    (hp : countReadArgs c.args = .error pos) :
    exec .countRead s = .next (executed s s c rest x ⟨.refused, .badArgument, [BitVec.ofNat 8 pos]⟩) :=
  congrArg Host.Outcome.next (State.sessionCommand_badArgument countReadRequest h pos hp)

/-- A part of a parted group, its members in ascending number (log 33). -/
theorem groupCounts_contexts (s : State) (part : Byte) (members : List (Fin 8))
    (h : (contextNumbers.drop (4 * part.toNat)).take 4 = members) :
    groupCounts s part .contexts = members.flatMap fun i => contextCounts s.capture.contexts[i] := by
  rw [← h]
  rfl

theorem groupCounts_slots (s : State) (part : Byte) (members : List (Fin 16))
    (h : (slotNumbers.drop (8 * part.toNat)).take 8 = members) :
    groupCounts s part .slots = members.flatMap fun i => slotCounts s.carousel.slots[i] := by
  rw [← h]
  rfl

end Sys2Proof.Machine

namespace Sys2Proof.Proofs

open Sys2Proof.Machine Sys2Proof.Safety

/-- Settles O49: the arguments give group and part, and the group's counts are laid out in the order of their owner's rule. -/
theorem countReadExecuted : Obligations.CountReadExecuted := by
  unfold Obligations.CountReadExecuted
  intro s c rest x part more extra h w done echo bank context slot i o a
  have whole {result : List Byte} (g : CounterGroup) (hg : g.whole = true) (hr : [g.toByte, echo] ++ groupCounts s echo g = result)
      (ha : c.args = g.toByte :: more) : exec .countRead s = done result :=
    hr ▸ countRead_done h (ha ▸ countReadArgs_whole more hg) rfl
  have parted {counts : List Byte} {part : Byte} (g : CounterGroup) (hg : g.parted = true) (hp : part.toNat ≤ 1)
      (hc : groupCounts s part g = counts) (ha : c.args = g.toByte :: part :: extra) :
      exec .countRead s = done ([g.toByte, part] ++ counts) :=
    countRead_done h (ha ▸ countReadArgs_parted extra hg hp) hc
  have hcontext (i : Fin 8) : contextCounts s.capture.contexts[i] = context i := by
    simp only [context, contextCounts]
    cases s.capture.contexts[i].lastLoss <;> rfl
  have hslot (i : Fin 16) : slotCounts s.carousel.slots[i] = slot i := by
    simp only [slot]
    cases s.carousel.slots[i] <;> rfl
  have contexts (part : Byte) (i j k l : Fin 8) (hm : (contextNumbers.drop (4 * part.toNat)).take 4 = [i, j, k, l]) :
      groupCounts s part .contexts = context i ++ context j ++ context k ++ context l := by
    simp only [groupCounts_contexts s part _ hm, hcontext, List.flatMap_cons, List.flatMap_nil, List.append_nil, List.append_assoc]
  refine ⟨whole .input rfl ?_, whole .output rfl ?_, whole .bankA rfl rfl, whole .bankB rfl rfl,
    fun ha => countRead_refused h (ha ▸ countReadArgs_entry more), parted .contexts rfl (Nat.zero_le 1) (contexts 0 0 1 2 3 rfl),
    parted .contexts rfl (Nat.le_refl 1) (contexts 1 4 5 6 7 rfl), parted .slots rfl (Nat.zero_le 1) ?_,
    parted .slots rfl (Nat.le_refl 1) ?_, ?_, whole .agent rfl ?_⟩
  · simp only [groupCounts, counterBytes, w, i, List.append_assoc]
    rfl
  · simp only [groupCounts, counterBytes, w, o, List.append_assoc]
    rfl
  · rw [groupCounts_slots s 0 [0, 1, 2, 3, 4, 5, 6, 7] rfl]
    simp only [hslot, List.flatMap_cons, List.flatMap_nil, List.append_nil, List.append_assoc]
  · rw [groupCounts_slots s 1 [8, 9, 10, 11, 12, 13, 14, 15] rfl]
    simp only [hslot, List.flatMap_cons, List.flatMap_nil, List.append_nil, List.append_assoc]
  · rintro (ha | ha) hp
    · exact countRead_refused h (ha ▸ countReadArgs_noPart (g := .contexts) extra rfl hp)
    · exact countRead_refused h (ha ▸ countReadArgs_noPart (g := .slots) extra rfl hp)
  · simp only [groupCounts, counterBytes, w, a, List.append_assoc]
    rfl

end Sys2Proof.Proofs
end

section
/-! PROOF. Time and resets: what a hard reset leaves, the test of a due time, every invariant at reset (O2, O3, O53). -/

namespace Sys2Proof.Machine

open Sys2Proof.Safety

/-! ### A hard reset, part by part (R97, R117, R167) -/

@[simp] theorem reset_context (i : Fin 8) : State.reset.capture.contexts[i] = Context.reset := by
  simp [State.reset, Capture.reset]

@[simp] theorem reset_record (r : Fin 4) : State.reset.capture.store[r] = none := by
  simp [State.reset, Capture.reset]

@[simp] theorem reset_slot (i : Fin 16) : State.reset.carousel.slots[i] = none := by
  simp [State.reset, Carousel.reset]

@[simp] theorem reset_cond (k : CondKind) : State.reset.agent.cond k = CondEntry.reset := by
  simp [State.reset, Agent.reset, Agent.cond]

/-! ### The test of a due time (R20, R67) -/

/-- The formula of R20, in numbers. -/
theorem reached_iff (lt due : Lt) : reached lt due = true ↔ (lt.toNat + (2 ^ 48 - due.toNat)) % 2 ^ 48 < 2 ^ 47 := by
  rw [reached, decide_eq_true_iff, BitVec.toNat_sub, Nat.add_comm]

/-- A time not yet reached is reached one tick later exactly when that tick is the time itself. -/
theorem reached_succ_iff {lt due : Lt} (h : reached lt due = false) : reached (lt + 1) due = true ↔ lt + 1 = due := by
  have hfar : 2 ^ 47 ≤ (lt - due).toNat := by simpa [reached] using h
  rw [reached, decide_eq_true_iff]
  bv_omega

theorem lt_succ (lt : Lt) : lt + 1 = BitVec.ofNat 48 ((lt.toNat + 1) % 2 ^ 48) := by
  bv_omega

theorem execTrefEdge_counts {s : State} (h : s.resetLow = false) :
    execTrefEdge s = .next { s with lt := s.lt + 1, line := { s.line with examinedAgo := s.line.examinedAgo + 1 } } :=
  if_neg (by simp [h])

/-! ### The invariants at reset -/

theorem queuesBounded_reset : QueuesBounded State.reset := by
  refine ⟨?_, ?_, ?_, ?_⟩ <;> exact Nat.zero_le _

theorem captureSound_reset : CaptureSound State.reset := by
  refine ⟨fun i p h => ?_, .nil, fun r => ?_, fun r x h => ?_⟩
  · rw [reset_context] at h
    cases h
  · rw [reset_record]
    exact iff_of_false List.not_mem_nil (by decide)
  · rw [reset_record] at h
    cases h

theorem carouselSound_reset : CarouselSound State.reset := by
  have noSlot {i : Fin 16} {d : SlotData} (h : State.reset.carousel.slots[i] = some d) : False := by
    rw [reset_slot] at h
    cases h
  exact ⟨fun _ _ h => (noSlot h).elim, nofun, fun _ _ h => (noSlot h).elim, .nil, fun _ h => (List.not_mem_nil h).elim, fun _ => rfl⟩

theorem delineationSound_reset : DelineationSound State.reset := ⟨nofun, nofun, nofun, rfl⟩

theorem conditionsSound_reset : ConditionsSound State.reset := by
  intro k
  rw [reset_cond]
  exact ⟨nofun, nofun⟩

theorem settingsLegal_reset : SettingsLegal State.reset := by
  unfold SettingsLegal
  decide

theorem restartSound_reset : RestartSound State.reset := rfl

theorem outputSound_reset : OutputSound State.reset := ⟨fun _ h => (List.not_mem_nil h).elim, nofun, nofun, nofun⟩

end Sys2Proof.Machine

namespace Sys2Proof.Proofs

open Sys2Proof.Machine Sys2Proof.Safety

/-- Settles O2. -/
theorem resetLeavesEveryBlock : Obligations.ResetLeavesEveryBlock := by
  unfold Obligations.ResetLeavesEveryBlock
  exact ⟨rfl, ⟨rfl, rfl, rfl⟩, ⟨rfl, rfl, rfl, rfl, rfl, rfl, rfl, rfl⟩, ⟨rfl, rfl, rfl, rfl⟩, ⟨rfl, rfl, rfl⟩,
    ⟨reset_context, reset_record, rfl⟩, ⟨reset_slot, rfl, rfl⟩, rfl, rfl, rfl, rfl, rfl, rfl, rfl, rfl, rfl, rfl, reset_cond⟩

/-- Settles O3: the steps by their definitions, the due time by arithmetic modulo 2^48. -/
theorem timeAndResetPin : Obligations.TimeAndResetPin := by
  unfold Obligations.TimeAndResetPin
  refine ⟨fun s => ⟨rfl, rfl, fun h => ?_, fun h => if_pos h, fun h k => s.outLines_resetLow k h⟩,
    fun lt due => ⟨reached_iff lt due, reached_succ_iff⟩⟩
  rw [← lt_succ]
  exact execTrefEdge_counts h

/-- Settles O53: each invariant by its own lemma. -/
theorem invariantsHoldAtReset : Obligations.InvariantsHoldAtReset := by
  unfold Obligations.InvariantsHoldAtReset
  exact ⟨queuesBounded_reset, tagLaws_reset, captureSound_reset, carouselSound_reset, delineationSound_reset, operationsSound_reset,
    conditionsSound_reset, settingsLegal_reset, restartSound_reset, outputSound_reset⟩

end Sys2Proof.Proofs
end

section
/-! PROOF. WARM_RESTART: the carousel's choice among slots that are all due at once, and what every block keeps (O33). -/

namespace Sys2Proof.Machine

open Sys2Proof.Safety

/-! ### Slots passed over for want of an image (R109) -/

theorem not_hasImage_iff (d : SlotData) : ¬ HasImage d ↔ d.current = none ∧ d.published = false := by
  simp [HasImage]

/-- The image a slot emits at its start (R104, R109). -/
theorem SlotData.takePending_current (d : SlotData) (h : HasImage d) :
    d.takePending.current = some (if d.published then Memory.readAll d.pendingBytes 0 d.pendingLen else d.current.getD []) := by
  cases hp : d.published with
  | true => simp [SlotData.takePending, hp]
  | false =>
    have hc : d.current.isSome = true := h.resolve_right (by simp [hp])
    obtain ⟨body, hbody⟩ := Option.isSome_iff_exists.mp hc
    simp [SlotData.takePending, hp, hbody]

/-- A slot passed over by the engine's choice: its next due LT is moved on. -/
def SlotData.passed (lt : Lt) (d : SlotData) : SlotData := { d with nextDue := d.advanceDue lt }

/-- The slots `is` passed over, one after the other. -/
def State.passOver (is : List (Fin 16)) (s : State) : State :=
  is.foldl (fun s i => s.setSlot i (s.carousel.slots[i].map (SlotData.passed s.lt))) s

/-- A slot without an image is passed over (R109). -/
theorem State.chooseFrom_cons_passed {s : State} {i : Fin 16} (rest : List (Fin 16))
    (h : ∀ d, s.carousel.slots[i] = some d → ¬ HasImage d) :
    State.chooseFrom (i :: rest) s = State.chooseFrom rest (s.passOver [i]) := by
  rw [State.chooseFrom, State.passOver, List.foldl_cons, List.foldl_nil]
  cases hi : s.carousel.slots[i] with
  | none =>
    have hself : s.setSlot i none = s := by rw [← hi, State.setSlot, setAt_self]
    rw [Option.map_none, hself]
  | some d =>
    obtain ⟨hcurrent, hpublished⟩ := (not_hasImage_iff d).mp (h d hi)
    have htake : d.takePending = d := by simp [SlotData.takePending, hpublished]
    simp only [htake, hcurrent, Option.map_some, SlotData.passed]

/-- Passing over touches the slots only. -/
theorem State.passOver_frame (is : List (Fin 16)) (s : State) :
    ∃ slots, s.passOver is = { s with carousel := { s.carousel with slots := slots } } := by
  induction is generalizing s with
  | nil => exact ⟨_, rfl⟩
  | cons i is ih =>
    obtain ⟨slots, h⟩ := ih (s.setSlot i (s.carousel.slots[i].map (SlotData.passed s.lt)))
    exact ⟨slots, h⟩

theorem State.passOver_slot_other {is : List (Fin 16)} (s : State) {j : Fin 16} (h : j ∉ is) :
    (s.passOver is).carousel.slots[j] = s.carousel.slots[j] := by
  induction is generalizing s with
  | nil => rfl
  | cons i is ih =>
    exact (ih (s.setSlot i _) (List.not_mem_of_not_mem_cons h)).trans (setAt_other _ _ _ _ (List.ne_of_not_mem_cons h))

theorem State.passOver_slot {is : List (Fin 16)} (s : State) {j : Fin 16} (hn : is.Nodup) (h : j ∈ is) :
    (s.passOver is).carousel.slots[j] = s.carousel.slots[j].map (SlotData.passed s.lt) := by
  induction is generalizing s with
  | nil => cases h
  | cons i is ih =>
    obtain ⟨hi, hn⟩ := List.nodup_cons.mp hn
    rcases List.mem_cons.mp h with rfl | hj
    · exact (State.passOver_slot_other (s.setSlot j _) hi).trans (setAt_same _ _ _)
    · have hne : j ≠ i := by rintro rfl; exact hi hj
      refine (ih (s.setSlot i _) hn hj).trans (congrArg (Option.map _) ?_)
      exact setAt_other _ _ _ _ hne

/-- The choice passes over the slots without an image that stand first (R108, R109). -/
theorem State.chooseFrom_append {is rest : List (Fin 16)} {s : State} (hn : is.Nodup)
    (h : ∀ i ∈ is, ∀ d, s.carousel.slots[i] = some d → ¬ HasImage d) :
    State.chooseFrom (is ++ rest) s = State.chooseFrom rest (s.passOver is) := by
  induction is generalizing s with
  | nil => rfl
  | cons i is ih =>
    obtain ⟨hi, hn⟩ := List.nodup_cons.mp hn
    rw [List.cons_append, State.chooseFrom_cons_passed _ (h i List.mem_cons_self)]
    refine ih hn fun j hj d hd => h j (List.mem_cons_of_mem i hj) d ?_
    have hne : j ∉ [i] := by rintro hmem; exact hi (List.mem_singleton.mp hmem ▸ hj)
    exact (State.passOver_slot_other s hne).symm.trans hd

/-! ### An emission started at the due time itself (R109 to R111) -/

theorem SlotData.elapsed_onTime {d : SlotData} {lt : Lt} (h : d.nextDue = lt) : d.elapsed lt = 1 := by
  simp [SlotData.elapsed, h]

theorem SlotData.passed_onTime (d : SlotData) (lt : Lt) :
    SlotData.passed lt { d with nextDue := lt } = { d with nextDue := lt + BitVec.ofNat 48 (25000 * d.interval) } := by
  rw [SlotData.passed, SlotData.advanceDue, SlotData.elapsed_onTime rfl, Nat.one_mul]
  rfl

/-- A slot whose due time is this tick starts its emission: one interval passed, nothing late. -/
theorem State.chooseFrom_cons_onTime {s : State} {i : Fin 16} {d : SlotData} (rest : List (Fin 16))
    (hd : s.carousel.slots[i] = some d) (hi : HasImage d) (hnow : d.nextDue = s.lt) :
    State.chooseFrom (i :: rest) s = { emissionStarted s i d 1 with carousel := { (emissionStarted s i d 1).carousel with due := rest } } := by
  have helapsed : d.elapsed s.lt = 1 := SlotData.elapsed_onTime hnow
  rw [State.chooseFrom]
  simp only [hd, SlotData.takePending_current d hi, State.startEmission, helapsed, emissionStarted, SlotData.advanceDue,
    SlotData.intervalTicks, Config.timerUnit]
  cases hp : d.published <;> simp [SlotData.takePending, hp, State.setSlot]

/-! ### The choice at a WARM restart (R108, R118) -/

/-- The numbers of a list in ascending order, split at one of them. -/
theorem ascending_split {is : List (Fin 16)} (h : is.Pairwise (· < ·)) {i : Fin 16} (hi : i ∈ is) :
    is = is.filter (· < i) ++ i :: is.filter (i < ·) := by
  obtain ⟨below, above, rfl⟩ := List.append_of_mem hi
  obtain ⟨-, htail, hbelow⟩ := List.pairwise_append.mp h
  have habove : ∀ j ∈ above, i < j := (List.pairwise_cons.mp htail).1
  have hbelow : ∀ j ∈ below, j < i := fun j hj => hbelow j hj i List.mem_cons_self
  have h1 : below.filter (· < i) = below := List.filter_eq_self.mpr (by simpa using hbelow)
  have h2 : above.filter (i < ·) = above := List.filter_eq_self.mpr (by simpa using habove)
  have h3 : below.filter (i < ·) = [] := by simpa using fun j hj => (hbelow j hj).le
  have h4 : above.filter (· < i) = [] := by simpa using fun j hj => (habove j hj).le
  simp [h1, h2, h3, h4]

theorem runningSlots_ascending (s : State) : (runningSlots s).Pairwise (· < ·) :=
  List.Pairwise.filter _ (by decide : slotNumbers.Pairwise (· < ·))

theorem mem_runningSlots {s : State} {i : Fin 16} : i ∈ runningSlots s ↔ ∃ d, s.carousel.slots[i] = some d ∧ d.run = .running := by
  simp [runningSlots, mem_slotNumbers, Option.any_eq_true]

@[simp] theorem warm_slot (s : State) (i : Fin 16) : s.warm.carousel.slots[i] = s.carousel.slots[i].map (SlotData.warm s.lt) :=
  mapAll_get _ _ i

theorem SlotData.warm_running {d : SlotData} (lt : Lt) (h : d.run = .running) : d.warm lt = { d with nextDue := lt } := by
  simp [SlotData.warm, h]

theorem warm_slot_running {s : State} {i : Fin 16} {d : SlotData} (hd : s.carousel.slots[i] = some d) (hr : d.run = .running) :
    s.warm.carousel.slots[i] = some { d with nextDue := s.lt } := by
  rw [warm_slot, hd, Option.map_some, SlotData.warm_running _ hr]

theorem SlotData.warm_idle {d : SlotData} (lt : Lt) (h : d.run ≠ .running) : d.warm lt = { d with run := .defined } := by
  cases hr : d.run with
  | running => exact absurd hr h
  | stopping => simp [SlotData.warm, hr]
  | defined =>
    obtain ⟨_⟩ := d
    cases hr
    rfl

theorem SlotData.warm_run_eq_running_iff (d : SlotData) (lt : Lt) : (d.warm lt).run = .running ↔ d.run = .running := by
  cases hr : d.run <;> simp [SlotData.warm, hr]

theorem warm_due (s : State) : s.warm.carousel.due = runningSlots s := by
  refine List.filter_congr fun i _ => ?_
  rw [mapAll_get]
  cases s.carousel.slots[i] with
  | none => rfl
  | some d => simp [SlotData.warm_run_eq_running_iff]

/-- At a WARM restart all RUNNING slots are due at the same time, so the order of choice is that of their numbers. -/
theorem warm_sortDue (s : State) : s.warm.carousel.sortDue s.warm.lt s.warm.carousel.due = runningSlots s := by
  rw [warm_due]
  refine Carousel.sortDue_unique _ _ _ _ (.refl _) ((runningSlots_ascending s).imp_of_mem fun {i j} hi hj hlt => .inr ⟨?_, hlt.le⟩)
  have age {k : Fin 16} (hk : k ∈ runningSlots s) : s.warm.carousel.age s.warm.lt k = 0 := by
    obtain ⟨d, hd, hr⟩ := mem_runningSlots.mp hk
    rw [Carousel.age, warm_slot_running hd hr]
    simp [State.warm]
  rw [age hi, age hj]

theorem warm_choose (s : State) : s.warm.choose = State.chooseFrom (runningSlots s) s.warm :=
  congrArg (State.chooseFrom · s.warm) (warm_sortDue s)

/-- Slot `i`, with data `d`, is the lowest RUNNING slot that has an image. -/
structure LowestWithImage (s : State) (i : Fin 16) (d : SlotData) : Prop where
  slot : s.carousel.slots[i] = some d
  running : d.run = .running
  image : HasImage d
  lowest : ∀ (j : Fin 16) (y : SlotData), j < i → s.carousel.slots[j] = some y → y.run = .running → ¬ HasImage y

/-- No RUNNING slot has an image. -/
def NoImage (s : State) : Prop := ∀ (i : Fin 16) (d : SlotData), s.carousel.slots[i] = some d → d.run = .running → ¬ HasImage d

theorem noImage_or_lowest (s : State) : NoImage s ∨ ∃ i d, LowestWithImage s i d := by
  by_cases h : ∃ (i : Fin 16) (d : SlotData), s.carousel.slots[i] = some d ∧ d.run = .running ∧ HasImage d
  · obtain ⟨i, ⟨d, hslot, hrun, himage⟩, hmin⟩ := wellFounded_lt.has_min
      {i : Fin 16 | ∃ d, s.carousel.slots[i] = some d ∧ d.run = .running ∧ HasImage d} h
    exact .inr ⟨i, d, hslot, hrun, himage, fun j y hlt hy hr hi => hmin j ⟨y, hy, hr, hi⟩ hlt⟩
  · exact .inl fun i d hslot hrun himage => h ⟨i, d, hslot, hrun, himage⟩

/-- A RUNNING slot's image is the same after the warm restart. -/
theorem warm_noImage {s : State} {i : Fin 16} (hi : i ∈ runningSlots s)
    (h : ∀ d, s.carousel.slots[i] = some d → d.run = .running → ¬ HasImage d) :
    ∀ d, s.warm.carousel.slots[i] = some d → ¬ HasImage d := by
  obtain ⟨d, hslot, hrun⟩ := mem_runningSlots.mp hi
  rw [warm_slot_running hslot hrun]
  rintro _ ⟨⟩
  exact h d hslot hrun

theorem runningSlots_nodup (s : State) : (runningSlots s).Nodup := (runningSlots_ascending s).imp ne_of_lt

/-- The state in which the lowest slot with an image starts: those below it were passed over. -/
def warmBelow (s : State) (i : Fin 16) : State := s.warm.passOver ((runningSlots s).filter (· < i))

theorem warm_choose_noImage {s : State} (h : NoImage s) :
    s.warm.choose = State.chooseFrom [] (s.warm.passOver (runningSlots s)) := by
  rw [warm_choose, ← State.chooseFrom_append (runningSlots_nodup s) fun i hi => warm_noImage hi (h i), List.append_nil]

theorem warm_choose_lowest {s : State} {i : Fin 16} {d : SlotData} (h : LowestWithImage s i d) :
    s.warm.choose = { emissionStarted (warmBelow s i) i { d with nextDue := s.lt } 1 with
      carousel := { (emissionStarted (warmBelow s i) i { d with nextDue := s.lt } 1).carousel with
        due := (runningSlots s).filter (i < ·) } } := by
  have hmem : i ∈ runningSlots s := mem_runningSlots.mpr ⟨d, h.slot, h.running⟩
  have hbelow : ∀ j ∈ (runningSlots s).filter (· < i), ∀ y, s.warm.carousel.slots[j] = some y → ¬ HasImage y := by
    intro j hj
    obtain ⟨hj, hlt⟩ := List.mem_filter.mp hj
    exact warm_noImage hj fun y => h.lowest j y (of_decide_eq_true hlt)
  have hself : i ∉ (runningSlots s).filter (· < i) := by simp
  have hslot : (warmBelow s i).carousel.slots[i] = some { d with nextDue := s.lt } :=
    (State.passOver_slot_other s.warm hself).trans (warm_slot_running h.slot h.running)
  have hlt : (warmBelow s i).lt = s.lt := by
    obtain ⟨slots, hframe⟩ := s.warm.passOver_frame ((runningSlots s).filter (· < i))
    rw [warmBelow, hframe]
    rfl
  calc s.warm.choose
      = State.chooseFrom ((runningSlots s).filter (· < i) ++ i :: (runningSlots s).filter (i < ·)) s.warm := by
        rw [warm_choose, ← ascending_split (runningSlots_ascending s) hmem]
    _ = State.chooseFrom (i :: (runningSlots s).filter (i < ·)) (warmBelow s i) :=
        State.chooseFrom_append ((runningSlots_nodup s).filter _) hbelow
    _ = _ := State.chooseFrom_cons_onTime _ hslot h.image hlt.symm

theorem warm_passOver_reports (s : State) (is : List (Fin 16)) : (s.warm.passOver is).reports = [] := by
  obtain ⟨slots, h⟩ := s.warm.passOver_frame is
  rw [h]
  rfl

theorem warm_choose_reports (s : State) : s.warm.choose.reports = [] := by
  rcases noImage_or_lowest s with h | ⟨i, d, h⟩
  · rw [warm_choose_noImage h]
    exact warm_passOver_reports s _
  · rw [warm_choose_lowest h]
    exact warm_passOver_reports s _

/-- The choice at a WARM restart touches no slot but the RUNNING ones. -/
theorem warm_choose_slot_idle {s : State} {j : Fin 16} (hj : j ∉ runningSlots s) :
    s.warm.choose.carousel.slots[j] = s.carousel.slots[j].map (SlotData.warm s.lt) := by
  rw [← warm_slot]
  rcases noImage_or_lowest s with h | ⟨i, d, h⟩
  · rw [warm_choose_noImage h]
    exact State.passOver_slot_other s.warm hj
  · rw [warm_choose_lowest h]
    have hne : j ≠ i := by
      rintro rfl
      exact hj (mem_runningSlots.mpr ⟨d, h.slot, h.running⟩)
    have hbelow : j ∉ (runningSlots s).filter (· < i) := fun hmem => hj (List.mem_filter.mp hmem).1
    exact (setAt_other _ _ _ _ hne).trans (State.passOver_slot_other s.warm hbelow)

/-- A slot passed over at a WARM restart is due again one interval later (R110). -/
theorem warm_passOver_slot {s : State} {is : List (Fin 16)} {j : Fin 16} {y : SlotData} (hn : is.Nodup) (hj : j ∈ is)
    (hy : s.carousel.slots[j] = some y) (hr : y.run = .running) :
    (s.warm.passOver is).carousel.slots[j] = some { y with nextDue := s.lt + BitVec.ofNat 48 (25000 * y.interval) } := by
  rw [State.passOver_slot s.warm hn hj, warm_slot_running hy hr]
  exact congrArg some (SlotData.passed_onTime y s.lt)

/-- With no image at hand nothing is emitted: every RUNNING slot is passed over. -/
theorem warm_choice_noImage (s : State) :
    let t := State.chooseFrom [] (s.warm.passOver (runningSlots s))
    t.carousel.emission = none ∧ t.carousel.due = []
      ∧ ∀ (j : Fin 16) (y : SlotData), s.carousel.slots[j] = some y → y.run = .running →
          t.carousel.slots[j] = some { y with nextDue := s.lt + BitVec.ofNat 48 (25000 * y.interval) } := by
  obtain ⟨slots, hframe⟩ := s.warm.passOver_frame (runningSlots s)
  refine ⟨?_, rfl, fun j y hy hr => warm_passOver_slot (runningSlots_nodup s) (mem_runningSlots.mpr ⟨y, hy, hr⟩) hy hr⟩
  rw [hframe]
  rfl

/-- The lowest slot with an image is emitted; those below it are passed over, those above it wait (R109, R118). -/
theorem warm_choice_lowest {s : State} {i : Fin 16} {d : SlotData} (h : LowestWithImage s i d) :
    let begun := (emissionStarted s i { d with nextDue := s.lt } 1).carousel
    s.warm.choose.carousel.emission = begun.emission ∧ s.warm.choose.carousel.slots[i] = begun.slots[i]
      ∧ s.warm.choose.carousel.due = (runningSlots s).filter (fun j => decide (i < j))
      ∧ (∀ (j : Fin 16) (y : SlotData), i < j → s.carousel.slots[j] = some y → y.run = .running →
          s.warm.choose.carousel.slots[j] = some { y with nextDue := s.lt })
      ∧ ∀ (j : Fin 16) (y : SlotData), j < i → s.carousel.slots[j] = some y → y.run = .running →
          s.warm.choose.carousel.slots[j] = some { y with nextDue := s.lt + BitVec.ofNat 48 (25000 * y.interval) } := by
  rw [warm_choose_lowest h]
  refine ⟨rfl, (setAt_same _ _ _).trans (setAt_same _ _ _).symm, rfl, fun j y hij hy hr => ?_, fun j y hji hy hr => ?_⟩
  · have habove : j ∉ (runningSlots s).filter (· < i) := by simp [hij.le]
    exact (setAt_other _ _ _ _ hij.ne').trans ((State.passOver_slot_other s.warm habove).trans (warm_slot_running hy hr))
  · have hbelow : j ∈ (runningSlots s).filter (· < i) :=
      List.mem_filter.mpr ⟨mem_runningSlots.mpr ⟨y, hy, hr⟩, decide_eq_true hji⟩
    exact (setAt_other _ _ _ _ hji.ne).trans (warm_passOver_slot ((runningSlots_nodup s).filter _) hbelow hy hr)

/-! ### The Capture Engine at a WARM restart (R98) -/

theorem contextNumbers_map_get {α : Type} (f : Fin 8 → α) (i : Fin 8) :
    (⟨⟨contextNumbers.map f⟩, rfl⟩ : Vector α 8)[i] = f i := by
  fin_cases i <;> rfl

/-- A context at a WARM restart, in one equation. -/
theorem Context.warm_bind (x : Context) (b : Option Tag) :
    (Context.warm x).bind b = { x with lastVersion := none, binding := b, state := if x.state = .idle then .idle else .armed } := by
  rw [Context.warm, Context.bind]
  cases x.state <;> simp

theorem warm_context (s : State) (i : Fin 8) : s.warm.capture.contexts[i] = { s.capture.contexts[i] with
    lastVersion := none, binding := s.map.activeBank.bindings[i]
    state := if s.capture.contexts[i].state = .idle then .idle else .armed } :=
  (contextNumbers_map_get _ i).trans (Context.warm_bind _ _)

theorem warm_record (s : State) (r : Fin 4) : s.warm.capture.store[r] = none := by
  simp [State.warm, Capture.warm]

/-- The slot that carried the restart's reply keeps its bytes, its mark being spent (R63). -/
theorem spendMark_bytes (s : Scheduler) : s.spendMark.map OutSlot.bytes = s.outSlot.map OutSlot.bytes := by
  cases h : s.outSlot <;> simp [Scheduler.spendMark, h]

theorem spendMark_mark (s : Scheduler) : s.spendMark.bind OutSlot.mark = none := by
  cases h : s.outSlot <;> simp [Scheduler.spendMark, h]

end Sys2Proof.Machine

namespace Sys2Proof.Proofs

open Sys2Proof.Machine Sys2Proof.Safety

/-- Settles O33: every slot is due at once, so the choice goes by number; the rest is the blocks' own warm state. -/
theorem warmRestartTaken : Obligations.WarmRestartTaken := by
  unfold Obligations.WarmRestartTaken
  intro s hmark fresh
  obtain ⟨c, rs, hframe⟩ := s.warm.choose_frame
  have kept {α : Type} (f : State → α) (h : f { s.warm with carousel := c, reports := rs } = f s.warm := by rfl) :
      f s.warm.choose = f s.warm := hframe ▸ h
  have hclassifier := kept State.classifier
  have hmap := kept State.map
  have hqueues := kept State.queues
  have hsched := kept State.sched
  have hcapture := kept State.capture
  refine ⟨s.warm.choose, if_pos hmark, kept State.resetLow, kept State.lt, kept State.pending, warm_choose_reports s, ?_, hclassifier, hmap,
    ?_, ?_, kept State.agent, ?_, ?_, ?_, ?_, ?_⟩
  · rw [kept State.line]
    exact ⟨rfl, rfl, rfl, rfl, rfl⟩
  · rw [hqueues]
    exact ⟨rfl, rfl, rfl⟩
  · rw [hsched]
    exact ⟨rfl, rfl, spendMark_mark s.sched, spendMark_bytes s.sched⟩
  · rw [hcapture]
    exact ⟨warm_context s, warm_record s, rfl, rfl⟩
  · intro i hi
    have hj : i ∉ runningSlots s := by simp [mem_runningSlots, hi]
    rw [warm_choose_slot_idle hj, hi, Option.map_none]
  · intro i d hi hr
    have hj : i ∉ runningSlots s := by simp [mem_runningSlots, hi, hr]
    rw [warm_choose_slot_idle hj, hi, Option.map_some, SlotData.warm_idle _ hr]
  · intro i d hi hr himage hlowest
    exact warm_choice_lowest ⟨hi, hr, himage, hlowest⟩
  · intro h
    rw [warm_choose_noImage h]
    exact warm_choice_noImage s

end Sys2Proof.Proofs
end

section
/-! PROOF. Sequence tracking: the tracker's judgement of a cell (O12), and every record at a sync loss (O16). -/

namespace Sys2Proof.Machine

/-! ### The tracker's judgement (R31 to R37) -/

/-- Only a forwarding entry assigns output sequences, and only with RENUMBER (R35). -/
theorem EntryFields.renumbers_eq (f : EntryFields) :
    f.renumbers = ((f.action == .forward || f.action == .forwardCapture) && f.numbering == .renumber) := by
  rw [EntryFields.renumbers, EntryFields.forwards_eq]

/-- An accepted cell is always recorded as the last accepted; the entry's numbering decides the two output sequences. -/
theorem acceptCell_eq (f : EntryFields) (t : Tracking) (q : Seq) (skip missed : Nat) (gap : Bool) :
    acceptCell f t q skip missed gap =
      .accepted ⟨.tracking q, if f.renumbers then t.nextOut + BitVec.ofNat 6 skip + 1 else t.nextOut⟩ missed gap
        (if f.renumbers then t.nextOut + BitVec.ofNat 6 skip else q) := by
  unfold acceptCell
  split_ifs <;> rfl

/-- The distance of R33 in natural numbers: the cells missing between the last accepted sequence and the cell's own. -/
theorem seq_distance (q last : Seq) : (q - last - 1).toNat = (q.toNat + 128 - last.toNat - 1) % 64 := by
  have hone : (1 : Seq).toNat = 1 := rfl
  rw [BitVec.toNat_sub, BitVec.toNat_sub, hone]
  omega

/-- The last accepted sequence itself lies at distance 63 (R33). -/
theorem seq_distance_self (q : Seq) : (q - q - 1).toNat = 63 := by
  rw [BitVec.sub_self]
  rfl

/-- In UNSEEN any cell is accepted, and output numbering goes on from the next output sequence (R31, R35). -/
theorem trackCell_unseen (f : EntryFields) (n q : Seq) : trackCell f ⟨.unseen, n⟩ q =
    .accepted ⟨.tracking q, if f.renumbers then n + 1 else n⟩ 0 false (if f.renumbers then n else q) := by
  have hskip : n + BitVec.ofNat 6 0 = n := BitVec.add_zero n
  show acceptCell f ⟨.unseen, n⟩ q 0 0 false = _
  rw [acceptCell_eq, hskip]

/-- In RESYNC any cell is accepted with the gap indication, and output numbering leaves one number out (R32, R36). -/
theorem trackCell_resync (f : EntryFields) (last n q : Seq) : trackCell f ⟨.resync last, n⟩ q =
    .accepted ⟨.tracking q, if f.renumbers then n + 2 else n⟩ 0 true (if f.renumbers then n + 1 else q) := by
  have hskip : n + BitVec.ofNat 6 1 + 1 = n + 2 := BitVec.add_assoc n 1 1
  show acceptCell f ⟨.resync last, n⟩ q 1 0 true = _
  rw [acceptCell_eq, hskip]
  rfl

/-- In TRACKING the last accepted sequence again is a duplicate (R33). -/
theorem trackCell_duplicate (f : EntryFields) (n q : Seq) : trackCell f ⟨.tracking q, n⟩ q = .duplicate :=
  if_pos (seq_distance_self q)

/-- In TRACKING any other cell is accepted, and output numbering leaves out as many numbers as cells were missed (R33, R36). -/
theorem trackCell_tracking (f : EntryFields) (n : Seq) {last q : Seq} {d : Nat} (hd : (q - last - 1).toNat = d) (hne : d ≠ 63) :
    trackCell f ⟨.tracking last, n⟩ q =
      .accepted ⟨.tracking q, if f.renumbers then n + BitVec.ofNat 6 d + 1 else n⟩ d (decide (d ≠ 0))
        (if f.renumbers then n + BitVec.ofNat 6 d else q) := by
  subst hd
  exact (if_neg hne).trans (acceptCell_eq f _ q _ _ _)

/-! ### SYNC_LOSS_RESYNC (R41) -/

@[simp] theorem Tracking.resync_tracking (last n : Seq) : Tracking.resync ⟨.tracking last, n⟩ = ⟨.resync last, n⟩ := rfl
@[simp] theorem Tracking.resync_unseen (n : Seq) : Tracking.resync ⟨.unseen, n⟩ = ⟨.unseen, n⟩ := rfl
@[simp] theorem Tracking.resync_resync (last n : Seq) : Tracking.resync ⟨.resync last, n⟩ = ⟨.resync last, n⟩ := rfl

/-- The Map Store's taking of a sync loss. -/
theorem exec_syncLossResync {s : State} {took : Bool} {rest : List ClassItem} (h : s.classifier.input = .syncLoss took :: rest) :
    exec .syncLossResync s = .next { s with
      classifier := { s.classifier with input := rest }
      map := { s.map with bankA := s.map.bankA.resync, bankB := s.map.bankB.resync }
      capture := { s.capture with input := if took then s.capture.input else s.capture.input ++ [.syncLoss] } } := by
  show execSyncLossResync s = _
  rw [execSyncLossResync, h]

end Sys2Proof.Machine

namespace Sys2Proof.Proofs

open Sys2Proof.Machine Sys2Proof.Safety

/-- Settles O12: one lemma for each mode of the record, TRACKING being split by the distance. -/
theorem trackerJudgement : Obligations.TrackerJudgement := by
  unfold Obligations.TrackerJudgement
  intro f n q
  simp only [← EntryFields.renumbers_eq]
  refine ⟨trackCell_unseen f n q, fun last => trackCell_resync f last n q, fun last hq => ?_, fun last d hd hne => ?_⟩
  · subst hq
    exact trackCell_duplicate f n q
  · exact trackCell_tracking f n ((seq_distance q last).trans hd.symm) hne

/-- Settles O16: what becomes of a bank is what becomes of each entry, mode by mode. -/
theorem syncLossResyncs : Obligations.SyncLossResyncs := by
  unfold Obligations.SyncLossResyncs
  intro s took rest h turn
  have hturn (e : Entry) : { e with track := e.track.resync } = turn e := by
    obtain ⟨fields, ⟨mode, n⟩, counters⟩ := e
    cases mode with
    | unseen => simp only [turn, Tracking.resync_unseen]
    | tracking last => simp only [turn, Tracking.resync_tracking]
    | resync last => simp only [turn, Tracking.resync_resync]
  have hbank (b : Bank) : b.resync = { b with entries := b.entries.map turn } := by
    simp only [Bank.resync, Bank.mapEntries, hturn]
  rw [exec_syncLossResync h, hbank, hbank]

end Sys2Proof.Proofs
end

section
/-! SUPPORT. Cells on the line: the six header bytes read back as a valid header, and what the part builds or passes on is a whole cell
(R60, R61, R203). -/

namespace Sys2Proof.Machine

open Sys2Proof.Safety

/-! ### Header bytes (R120, R203) -/

/-- The third header byte: the tag's lower 4 bits, U, K, F and a zero bit. -/
theorem headerFlags_zeroBit (h : Header) :
    (h.tag.extractLsb' 0 4 ++ BitVec.ofBool h.u ++ BitVec.ofBool h.k ++ BitVec.ofBool h.f ++ 0#1 : Byte).getLsbD 0 = false := by
  rw [BitVec.getLsbD_append]
  rfl

/-- A sequence leaves the two upper bits of its byte zero. -/
theorem seqByte_upperBits (q : Seq) : (q.zeroExtend 8 : Byte).extractLsb' 6 2 = 0#2 := by
  refine BitVec.eq_of_toNat_eq ?_
  have hq := q.isLt
  simp only [BitVec.truncate_eq_setWidth, BitVec.extractLsb'_toNat, BitVec.toNat_setWidth, Nat.shiftRight_eq_div_pow, BitVec.toNat_ofNat]
  omega

theorem headerBytes_length (h : Header) : (headerBytes h).length = 6 := rfl

/-- The header bytes of a length that a cell may carry form a valid header, whatever follows them. -/
theorem readHeader_headerBytes (h : Header) (rest : List Byte) (hl : h.len.toNat ≤ 122) :
    (readHeader ((headerBytes h ++ rest).getD 0 0) ((headerBytes h ++ rest).getD 1 0) ((headerBytes h ++ rest).getD 2 0)
      ((headerBytes h ++ rest).getD 3 0) ((headerBytes h ++ rest).getD 4 0) ((headerBytes h ++ rest).getD 5 0)).isSome = true := by
  refine Option.isSome_iff_exists.mpr ⟨_, if_pos ⟨rfl, rfl, headerFlags_zeroBit h, seqByte_upperBits h.seq, hl⟩⟩

/-- A header that six bytes carry has a payload length of at most 122. -/
theorem readHeader_len {b0 b1 b2 b3 b4 b5 : Byte} {h : Header} (hr : readHeader b0 b1 b2 b3 b4 b5 = some h) : h.len.toNat ≤ 122 := by
  unfold readHeader at hr
  split_ifs at hr with hv
  cases hr
  obtain ⟨-, -, -, -, hl⟩ := hv
  exact hl

/-! ### Whole cells -/

theorem cellBytes_length {c : Cell} (tag : Tag) (seq : Seq) (h : c.payload.length = 122) : (cellBytes c tag seq).length = 128 := by
  rw [cellBytes, List.length_append, headerBytes_length, h]

/-- A slot that carries a whole cell, whatever its restart mark (R56, R60). -/
theorem slotWhole_cellBytes {c : Cell} (tag : Tag) (seq : Seq) (mark : Option RestartKind) (h : CellWhole c) :
    SlotWhole ⟨cellBytes c tag seq, mark⟩ :=
  ⟨cellBytes_length tag seq h.1, readHeader_headerBytes _ _ h.2⟩

/-- A cell that the part builds of at most 122 bytes is whole (R111, R137). -/
theorem cellWhole_buildCell (tag : Tag) (seq : Seq) (u : Bool) {body : List Byte} (h : body.length ≤ 122) :
    CellWhole (buildCell tag seq u body) := by
  refine ⟨?_, ?_⟩
  · simp only [buildCell, Config.payloadBytes, List.length_append, List.length_replicate]
    omega
  · simp only [buildCell, BitVec.toNat_ofNat]
    omega

/-- Restamping leaves a whole cell whole (R75). -/
theorem MediaCell.sent_whole {m : MediaCell} (departure : Lt) (h : CellWhole m.cell) : CellWhole (m.sent departure) := by
  unfold MediaCell.sent
  split_ifs
  · refine ⟨?_, h.2⟩
    have hl := h.1
    simp only [restampPayload, ltBytes, List.length_append, beBytes_length, List.length_drop]
    omega
  · exact h

theorem cellWhole_filler : CellWhole fillerCell := cellWhole_buildCell 0 0 false (Nat.zero_le _)

end Sys2Proof.Machine
end

section
/-! SUPPORT. The cells held, the slot under way, the session and the small records: which steps leave them as they are, and what every other
step can do to them, said once for the invariants over them. -/

namespace Sys2Proof.Machine

open Sys2Proof.Safety

/-! ### What the invariants read -/

/-- The cells on their way, the slot under way, and what the Agent answers from. -/
structure Traffic where
  input : List Cell
  offered : List Offer
  queues : Queues
  receiving : Option RxCell
  outSlot : Option OutSlot
  mode : AgentMode
  session : Option Session
  cmdQueue : List Cell

/-- The traffic with the records of delineation, conditions and configuration. -/
structure Records where
  traffic : Traffic
  lt : Lt
  delin : Delineation
  examinedLt : Lt
  examinedAgo : Nat
  conds : Vector CondEntry 8
  settings : Settings
  shareCount : Nat

def State.traffic (s : State) : Traffic :=
  ⟨s.classifier.input.flatMap ClassItem.cells, s.classifier.offered, s.queues, s.line.receiving, s.sched.outSlot, s.agent.mode,
    s.agent.session, s.agent.cmdQueue⟩

def State.records (s : State) : Records :=
  ⟨s.traffic, s.lt, s.line.delin, s.line.examinedLt, s.line.examinedAgo, s.agent.conds, s.agent.settings, s.sched.shareCount⟩

theorem heldCells_eq (s : State) : heldCells s =
    s.traffic.input ++ s.traffic.offered.map (fun o => o.media.cell) ++ s.traffic.cmdQueue
      ++ s.traffic.queues.mgmt.map MgmtCell.cell ++ s.traffic.queues.table.map TableCell.cell
      ++ s.traffic.queues.media.map MediaCell.cell := rfl

/-- A state with the same traffic keeps its queues within bounds. -/
theorem queuesBounded_congr {s t : State} (h : t.traffic = s.traffic) (hs : QueuesBounded s) : QueuesBounded t := by
  have hq : t.queues = s.queues := congrArg Traffic.queues h
  have hc : t.agent.cmdQueue = s.agent.cmdQueue := congrArg Traffic.cmdQueue h
  rwa [QueuesBounded, hq, hc]

theorem outputSound_congr {s t : State} (h : t.traffic = s.traffic) (hs : OutputSound s) : OutputSound t := by
  have hr : t.line.receiving = s.line.receiving := congrArg Traffic.receiving h
  have hx : t.agent.session = s.agent.session := congrArg Traffic.session h
  have ho : t.sched.outSlot = s.sched.outSlot := congrArg Traffic.outSlot h
  rwa [OutputSound, heldCells_eq, h, ← heldCells_eq, hr, hx, ho]

theorem restartSound_congr {s t : State} (h : t.traffic = s.traffic) (hs : RestartSound s) : RestartSound t := by
  have hq : t.queues = s.queues := congrArg Traffic.queues h
  have hc : t.agent.cmdQueue = s.agent.cmdQueue := congrArg Traffic.cmdQueue h
  have hm : t.agent.mode = s.agent.mode := congrArg Traffic.mode h
  have ho : t.sched.outSlot = s.sched.outSlot := congrArg Traffic.outSlot h
  rwa [RestartSound, restartMarks, Scheduler.restartMark, hq, hc, hm, ho]

/-! ### Steps that leave all of it (R53, R78 to R92, R107, R127, R130) -/

theorem ContextStep.records {s t : State} (h : ContextStep s t) : t.records = s.records := by
  obtain ⟨cs, rs, rfl⟩ := h
  rfl

theorem HandoffStep.records {s t : State} (h : HandoffStep s t) : t.records = s.records := by
  cases h with
  | contexts t h => exact h.records
  | filed r x cs rs => rfl

theorem State.joinDue_records (s : State) (i : Fin 16) : (s.joinDue i).records = s.records := by
  obtain ⟨c, rs, h⟩ := s.joinDue_frame i
  rw [h]
  rfl

theorem State.choose_records (s : State) : s.choose.records = s.records := by
  obtain ⟨c, rs, h⟩ := s.choose_frame
  rw [h]
  rfl

theorem execSyncLossCaptureAbandon_records (s : State) :
    Ensures (fun t => t.records = s.records) (execSyncLossCaptureAbandon s) := by
  unfold execSyncLossCaptureAbandon
  split
  · exact (ensures_next _ _).mpr ((ContextStep.abandonAll _).records.trans rfl)
  · next hi =>
    refine (ensures_next _ _).mpr ((ContextStep.abandonAll _).records.trans ?_)
    simp only [State.records, State.traffic, hi]
    rfl
  · exact (ensures_next _ _).mpr rfl

theorem execSyncLossResync_records (s : State) : Ensures (fun t => t.records = s.records) (execSyncLossResync s) := by
  unfold execSyncLossResync
  split
  · next hi =>
    refine (ensures_next _ _).mpr ?_
    simp only [State.records, State.traffic, hi]
    rfl
  · exact (ensures_next _ _).mpr rfl

theorem execCommitDue_records (s : State) : Ensures (fun t => t.records = s.records) (execCommitDue s) := by
  unfold execCommitDue
  split
  · exact (ensures_next _ _).mpr rfl
  · split_ifs
    · split
      · exact (ensures_next _ _).mpr rfl
      · exact (ensures_next _ _).mpr rfl
    · exact (ensures_next _ _).mpr rfl

theorem execQueueEmptyEvent_records (s : State) : Ensures (fun t => t.records = s.records) (execQueueEmptyEvent s) := by
  unfold execQueueEmptyEvent
  split
  · exact (ensures_next _ _).mpr rfl
  · dsimp only
    split_ifs
    · exact (ensures_next _ _).mpr rfl
    · exact (ensures_next _ _).mpr rfl

theorem execSlotDue_records (i : Fin 16) (s : State) : Ensures (fun t => t.records = s.records) (execSlotDue i s) := by
  unfold execSlotDue
  split
  · exact (ensures_next _ _).mpr rfl
  · split_ifs
    · exact (ensures_next _ _).mpr ((State.choose_records _).trans (s.joinDue_records i))
    · exact (ensures_next _ _).mpr rfl

/-- The blocks' own steps that move no cell and touch no record. -/
def quietStep : Instr → Bool
  | .resetNRelease | .captureHandoff | .assemblyDeadlineReached _ | .captureBindingUpdate | .syncLossCaptureAbandon
  | .syncLossResync | .commitDue | .queueEmptyEvent | .slotDue _ => true
  | _ => false

theorem exec_quiet {i : Instr} (hi : quietStep i = true) (s : State) : Ensures (fun t => t.records = s.records) (exec i s) := by
  cases i with
  | resetNRelease => exact ensures_of_eq rfl rfl
  | captureHandoff =>
    obtain ⟨input, t, ht, h⟩ := execCaptureHandoff_step s
    exact ensures_of_eq ht (h.records.trans rfl)
  | assemblyDeadlineReached ctx =>
    obtain ⟨t, ht, h⟩ := execAssemblyDeadlineReached_step ctx s
    exact ensures_of_eq ht h.records
  | captureBindingUpdate =>
    obtain ⟨input, t, ht, h⟩ := execCaptureBindingUpdate_step s
    exact ensures_of_eq ht (h.records.trans rfl)
  | syncLossCaptureAbandon => exact execSyncLossCaptureAbandon_records s
  | syncLossResync => exact execSyncLossResync_records s
  | commitDue => exact execCommitDue_records s
  | queueEmptyEvent => exact execQueueEmptyEvent_records s
  | slotDue i => exact execSlotDue_records i s
  | _ => cases hi

/-! ### The steps that move a cell (R5 to R8, R48, R57, R112, R135, R150 to R153) -/

/-- What a classified cell can leave: it is dropped or handed to capture, offered for forwarding besides, or queued as a command. -/
inductive CellTaken (s : State) (c : Cell) (t : State) : Prop
  | passed (h : t.records = s.records)
  | offered (o : Offer) (cell : o.media.cell = c)
      (h : t.records = { s with classifier := { s.classifier with offered := s.classifier.offered ++ [o] } }.records)
  | queued (serving : s.agent.mode = .serving) (room : s.agent.cmdQueue.length < 4)
      (h : t.records = { s with agent := { s.agent with cmdQueue := s.agent.cmdQueue ++ [c] } }.records)

theorem CellTaken.intercept (s : State) (c : Cell) : CellTaken s c (s.intercept c) := by
  unfold State.intercept
  split_ifs with hm hd
  · exact .passed rfl
  · exact .passed rfl
  · refine .queued ?_ (by simp only [Config.commandPlaces] at hd; omega) rfl
    cases h : s.agent.mode with
    | serving => rfl
    | restarting => exact absurd h hm

theorem CellTaken.classifyMatched (s : State) (e : Entry) (c : Cell) (arrival : Lt) : CellTaken s c (s.classifyMatched e c arrival) := by
  simp only [State.classifyMatched]
  split
  · exact .passed rfl
  · next track missed gap outSeq _ =>
    let o : Offer := ⟨e.fields.descriptor c outSeq s.agent.settings.staleLimit arrival, s.map.active, some e.fields.inputTag⟩
    split_ifs
    · exact .offered o rfl rfl
    · exact .passed rfl
    · exact .offered o rfl rfl
    · exact .passed rfl

theorem CellTaken.classifyUnmapped (s : State) (c : Cell) (arrival : Lt) : CellTaken s c (s.classifyUnmapped c arrival) := by
  simp only [State.classifyUnmapped]
  split
  · exact .passed rfl
  · split_ifs
    · exact .passed rfl
    · exact .offered ⟨passedDescriptor c s.agent.settings.staleLimit arrival, s.map.active, none⟩ rfl rfl

theorem execCellClassification_taken (s : State) : execCellClassification s = .next s ∨ ∃ c arrival rest t,
    s.classifier.input = .cell c arrival :: rest ∧ execCellClassification s = .next t
      ∧ CellTaken { s with classifier := { s.classifier with input := rest } } c t := by
  unfold execCellClassification
  split
  · next c arrival rest hi =>
    refine .inr ⟨c, arrival, rest, _, hi, rfl, ?_⟩
    unfold State.classify
    split_ifs
    · exact .intercept _ _
    · split
      · exact .classifyMatched _ _ _ _
      · exact .classifyUnmapped _ _ _
  · exact .inl rfl

/-- What MEDIA_ADMISSION can leave of the offer at the head: it is gone, and its cell may have joined the media queue, which had room. -/
theorem execMediaAdmission_taken (s : State) : execMediaAdmission s = .next s ∨ ∃ o rest t,
    s.classifier.offered = o :: rest ∧ execMediaAdmission s = .next t
      ∧ (t.records = { s with classifier := { s.classifier with offered := rest } }.records
        ∨ s.queues.media.length < 480 ∧ t.records = { s with
            classifier := { s.classifier with offered := rest }
            queues := { s.queues with media := s.queues.media ++ [o.media] } }.records) := by
  unfold execMediaAdmission
  split
  · exact .inl rfl
  · next o rest ho =>
    refine .inr ⟨o, rest, ?_⟩
    dsimp only
    split_ifs with hf hq
    · exact ⟨_, ho, rfl, .inl rfl⟩
    · exact ⟨_, ho, rfl, .inl rfl⟩
    · exact ⟨_, ho, rfl, .inr ⟨not_le.mp hq, rfl⟩⟩

/-- What a slot decision takes from the queues: the management or table head it sends, or the media cell it sends with the cells discarded
before it; other queues may only have lost discarded cells. -/
inductive Drawn (q : Queues) : SlotChoice → Queues → Prop
  | mgmt (c : MgmtCell) (rest : List MgmtCell) (head : q.mgmt = c :: rest) : Drawn q (.mgmt c) { q with mgmt := rest }
  | table (c : TableCell) (rest : List TableCell) (ms : List MediaCell) (head : q.table = c :: rest) (left : ms <:+ q.media) :
      Drawn q (.table c) { q with table := rest, media := ms }
  | media (m : MediaCell) (ms : List MediaCell) (left : m :: ms <:+ q.media) : Drawn q (.media m) { q with media := ms }
  | filler (ms : List MediaCell) (left : ms <:+ q.media) : Drawn q .filler { q with media := ms }

/-- The media cells left by the stale decisions are the end of the queue (R59). -/
theorem dropStaleHeads_suffix {departure : Lt} {ms left : List MediaCell} {n : Nat} (h : dropStaleHeads departure ms = (left, n)) :
    left <:+ ms := by
  obtain ⟨gone, e, -⟩ := dropStaleHeads_split departure ms
  rw [h] at e
  exact ⟨gone, e.symm⟩

theorem decideSlot_drawn (q : Queues) (shareCount share : Nat) (departure : Lt) :
    Drawn q (decideSlot q shareCount share departure).choice (decideSlot q shareCount share departure).queues := by
  unfold decideSlot
  split
  · next c rest hm => exact .mgmt c rest hm
  · split
    · next t ts ht =>
      split_ifs
      · exact .table t ts q.media ht (List.suffix_refl _)
      · split
        · next m ms n hd => exact .media m ms (dropStaleHeads_suffix hd)
        · exact .table t ts [] ht List.nil_suffix
    · split
      · next m ms n hd => exact .media m ms (dropStaleHeads_suffix hd)
      · exact .filler [] List.nil_suffix

theorem State.decideNext_drawn (s : State) : Drawn s.queues s.decideNext.choice s.decideNext.queues := by
  unfold State.decideNext
  split
  · exact .filler s.queues.media (List.suffix_refl _)
  · exact decideSlot_drawn _ _ _ _

/-- A slot begins, drawn from the queues, or nothing happens (R56, R63, R133). -/
theorem execSlotDecision_drawn (s : State) : execSlotDecision s = .next s ∨ ∃ choice q t, s.sched.restartMark = none
    ∧ Drawn s.queues choice q ∧ execSlotDecision s = .next t ∧ t.records = { s with
        queues := q
        sched := { s.sched with
          shareCount := choice.shareAfter s.sched.shareCount s.agent.settings.tableShare
          outSlot := some (choice.outSlot s.lt) } }.records := by
  unfold execSlotDecision
  split_ifs with h
  · exact .inl rfl
  · have hm : s.sched.restartMark = none := by simpa using (Bool.or_eq_false_iff.mp (Bool.eq_false_iff.mpr h)).2
    exact .inr ⟨_, _, _, hm, s.decideNext_drawn, rfl, rfl⟩

/-- TABLE_CELL_PLACEMENT places a whole cell in a queue that had room, or does nothing (R50, R111). -/
theorem execTableCellPlacement_placed (s : State) : execTableCellPlacement s = .next s ∨ ∃ c t, s.queues.table.length < 24
    ∧ CellWhole c.cell ∧ execTableCellPlacement s = .next t
    ∧ t.records = { s with queues := { s.queues with table := s.queues.table ++ [c] } }.records := by
  unfold execTableCellPlacement
  split
  · exact .inl rfl
  · next e _ =>
    split
    · exact .inl rfl
    · next d _ =>
      have whole : CellWhole (e.cell d).cell :=
        cellWhole_buildCell _ _ _ (by simp only [List.length_take, Config.payloadBytes]; omega)
      split_ifs with hroom
      · exact .inr ⟨e.cell d, _, hroom, whole, rfl, rfl⟩
      · exact .inr ⟨e.cell d, _, hroom, whole, rfl, State.choose_records _⟩
      · exact .inl rfl

/-- What a notice can leave: nothing new, or a cell in the management queue, which had room for it and a reply; the owed flag of one condition
may have been cleared (R150 to R153). -/
inductive NoticePlaced (s t : State) : Prop
  | unchanged (h : t = s)
  | placed (u : State) (kind : Byte) (contents : List Byte) (allowed : s.noticeAllowed = true) (short : contents.length ≤ 20)
      (h : t = u.placeNotice kind contents) (same : u.records = s.records)
  | condition (k : CondKind) (kind : Byte) (contents : List Byte) (allowed : s.noticeAllowed = true) (short : contents.length ≤ 20)
      (h : t = State.placeNotice { s with agent := s.agent.setCond k (s.agent.cond k).clearOwed } kind contents)

theorem execCompletionNotice_placed (s : State) : Ensures (NoticePlaced s) (execCompletionNotice s) := by
  unfold execCompletionNotice
  split
  · next k q o _ =>
    split_ifs with ha
    · have short : (completionContents k q o).length ≤ 20 := by
        cases o <;> simp [completionContents, tagBytes]
      exact (ensures_next _ _).mpr (.placed _ _ _ ha short rfl rfl)
    · exact (ensures_next _ _).mpr (.unchanged rfl)
  · exact (ensures_next _ _).mpr (.unchanged rfl)
  · exact (ensures_next _ _).mpr (.unchanged rfl)

theorem execCaptureReadyNotice_placed (s : State) : Ensures (NoticePlaced s) (execCaptureReadyNotice s) := by
  unfold execCaptureReadyNotice
  split
  · exact (ensures_next _ _).mpr (.unchanged rfl)
  · next i _ =>
    split
    · exact (ensures_next _ _).mpr (.unchanged rfl)
    · next r _ =>
      split_ifs with ha
      · have short : (captureReadyContents i r).length ≤ 20 := by simp [captureReadyContents, tagBytes, ltBytes]
        exact (ensures_next _ _).mpr (.placed _ _ _ (Bool.and_eq_true_iff.mp ha).1 short rfl rfl)
      · exact (ensures_next _ _).mpr (.unchanged rfl)

theorem execConditionNotice_placed (s : State) : Ensures (NoticePlaced s) (execConditionNotice s) := by
  unfold execConditionNotice
  split
  · exact (ensures_next _ _).mpr (.unchanged rfl)
  · next k _ =>
    split_ifs with ha
    · have short : (conditionContents k (s.agent.cond k)).length ≤ 20 := by simp [conditionContents, counterBytes, ltBytes]
      have allowed := (Bool.and_eq_true_iff.mp (Bool.and_eq_true_iff.mp ha).1).1
      exact (ensures_next _ _).mpr (.condition k _ _ allowed short rfl)
    · exact (ensures_next _ _).mpr (.unchanged rfl)

end Sys2Proof.Machine
end

section
/-! SUPPORT. The Agent's answers: every one fits a cell, and what the requests of the session commands leave as it is (R136 to R146). -/

namespace Sys2Proof.Machine

open Sys2Proof.Safety

/-! ### Answers fit their cells (R93, R137, R207) -/

/-- A reply cell has room for the result of an answer, with the 11 bytes before it, beside 7 spare bytes (R207). -/
def Answer.Fits (a : Answer) : Prop := a.result.length ≤ 104

theorem Reply.payload_length (r : Reply) (repeated : Bool) : (r.payload repeated).length = 11 + r.answer.result.length := by
  simp only [Reply.payload, List.length_append, beBytes_length, List.length_cons, List.length_nil]

theorem busyAnswer_fits (l : LongOp) : (busyAnswer l).Fits := by
  cases l <;> simp [busyAnswer, refusedWith, Answer.Fits, LongOp.kind, LongOp.seq]

theorem conflictBytes_length (k : ConflictCheck) (item : Nat) : (conflictBytes k item).length = 3 := by simp [conflictBytes]

theorem conflict_fits (k : ConflictCheck) (item : Nat) : (refusedWith .conflict (conflictBytes k item)).Fits := by
  simp [Answer.Fits, refusedWith, conflictBytes_length]

theorem editShadow_fits (f : Bank → Answer × Bank) (hf : ∀ b, (f b).1.Fits) (s : State) : (editShadow f s).1.Fits := by
  unfold editShadow
  split
  · simp [refusedWith, Answer.Fits, ltBytes]
  · exact hf _

theorem putEntry_fits (f : EntryFields) (cmdTag : Tag) (b : Bank) : (putEntry f cmdTag b).1.Fits := by
  unfold putEntry
  dsimp only
  split_ifs
  · exact conflict_fits _ _
  · exact Nat.zero_le _
  · simp [doneWith, Answer.Fits, countBytes]

theorem removeEntry_fits (t : Tag) (b : Bank) : (removeEntry t b).1.Fits := by
  unfold removeEntry
  split
  · exact Nat.zero_le _
  · simp [doneWith, Answer.Fits, countBytes]

theorem commitNow_fits (c : Command) (due : Option Lt) (s : State) : (commitNow c due s).1.Fits := by
  have commit (due : Option Lt) (bank : Option BankId) : (acceptedWith (commitResult due bank)).Fits := by
    simp [Answer.Fits, acceptedWith, commitResult, optBytes_length, ltBytes]
  unfold commitNow
  split
  · exact conflict_fits _ _
  · split
    · exact commit _ _
    · exact commit _ _

theorem storeReadAnswer_fits (c : Capture) (i : Fin 4) (offset : Nat) : (storeReadAnswer c i offset).Fits := by
  unfold storeReadAnswer
  split
  · exact Nat.zero_le _
  · split_ifs
    · simp [Answer.Fits, doneWith, recordDescription, tagBytes, ltBytes]
    · simp [Answer.Fits, doneWith, Config.readBytes]

theorem startClash_length {s : State} {t : Tag} {r : List Byte} (h : startClash s t = some r) : r.length = 3 := by
  unfold startClash at h
  split at h
  · cases h
    exact conflictBytes_length _ _
  · split_ifs at h
    · cases h
      exact conflictBytes_length _ _
    · obtain ⟨i, -, rfl⟩ := Option.map_eq_some_iff.mp h
      exact conflictBytes_length _ _

theorem tagsClash_length {s : State} {cmd reply : Tag} {r : List Byte} (h : tagsClash s cmd reply = some r) : r.length = 3 := by
  unfold tagsClash at h
  split_ifs at h
  · cases h
    exact conflictBytes_length _ _
  · split at h
    · cases h
      exact conflictBytes_length _ _
    · split at h
      · cases h
        exact conflictBytes_length _ _
      · obtain ⟨i, -, rfl⟩ := Option.map_eq_some_iff.mp h
        exact conflictBytes_length _ _

theorem recordStatus_length (c : Capture) (i : Fin 4) : (c.recordStatus i).length = 3 := by
  simp [Capture.recordStatus, optBytes_length]

theorem statusResult_length (s : State) : (statusResult s).length = 54 := by
  have records : (recordNumbers.flatMap s.capture.recordStatus).length = 12 := by
    simp [recordNumbers, recordStatus_length]
  unfold statusResult
  simp [optBytes_length, records, ltBytes, countBytes, tagBytes]

theorem slotQueryResult_length (c : Carousel) (i : Fin 16) : (slotQueryResult c i).length = 52 := by
  simp [slotQueryResult, optBytes_length, tagBytes, ltBytes, countBytes, counterBytes]

theorem condBytes_length (k : CondKind) (e : CondEntry) : (condBytes k e).length = 13 := by
  simp [condBytes, counterBytes, ltBytes]

theorem contextCounts_length (c : Context) : (contextCounts c).length = 24 := by
  have loss (o : Option (LossReason × Lt)) : (lossBytes o).length = 7 := by
    cases o <;> simp [lossBytes, ltBytes]
  simp [contextCounts, counterBytes, loss]

theorem slotCounts_length (d : Option SlotData) : (slotCounts d).length = 11 := by
  simp [slotCounts, optBytes_length, counterBytes]

/-- A list of at most `n` members, each laid out in `w` bytes. -/
theorem flatMap_length_le {α : Type} {l : List α} {f : α → List Byte} {n w : Nat} (hl : l.length ≤ n) (hf : ∀ x, (f x).length = w) :
    (l.flatMap f).length ≤ n * w := by
  simp only [List.length_flatMap, hf, List.map_const', List.sum_replicate, smul_eq_mul]
  exact Nat.mul_le_mul_right w hl

theorem groupCounts_length (s : State) (part : Byte) (g : CounterGroup) : (groupCounts s part g).length ≤ 96 := by
  cases g with
  | input | output | bankA | bankB | agent => simp [groupCounts, bankCounts, counterBytes]
  | entry => exact Nat.zero_le _
  | contexts => exact flatMap_length_le (List.length_take_le ..) fun i => contextCounts_length _
  | slots => exact (flatMap_length_le (List.length_take_le ..) fun i => slotCounts_length _).trans (by decide)

/-! ### The requests (R11 to R25, R80 to R106, R147 to R202) -/

/-- A request whose reply carries no mark and that ends with the reply; it moves no cell and touches neither session, mode, delineation,
conditions nor configuration. -/
structure PlainRequest {α : Type} (r : Request α) : Prop where
  act : ∀ c y s, (r.act c y s).2.records = s.records
  fits : ∀ c y s, (r.act c y s).1.Fits
  mark : ∀ y, r.mark y = none
  after : r.after = id

/-- A request that only answers. -/
theorem PlainRequest.of_answer {α : Type} {r : Request α} (act : ∀ c y s, (r.act c y s).2 = s) (fits : ∀ c y s, (r.act c y s).1.Fits)
    (mark : ∀ y, r.mark y = none) (after : r.after = id) : PlainRequest r :=
  ⟨fun c y s => by rw [act c y s], fits, mark, after⟩

theorem editShadow_records (f : Bank → Answer × Bank) (s : State) : (editShadow f s).2.records = s.records := by
  unfold editShadow
  split <;> rfl

/-- An edit of the shadow bank. -/
theorem PlainRequest.of_edit {α : Type} {r : Request α} (f : α → State → Bank → Answer × Bank)
    (act : ∀ c y s, r.act c y s = editShadow (f y s) s) (fits : ∀ y s b, (f y s b).1.Fits) (mark : ∀ y, r.mark y = none)
    (after : r.after = id) : PlainRequest r :=
  ⟨fun c y s => by rw [act, editShadow_records], fun c y s => by rw [act]; exact editShadow_fits _ (fits y s) s, mark, after⟩

theorem pingRequest_plain : PlainRequest pingRequest :=
  .of_answer (fun _ _ _ => rfl) (fun _ _ s => by simp [pingRequest, doneWith, Answer.Fits, ltBytes]) (fun _ => rfl) rfl

theorem statusRequest_plain : PlainRequest statusRequest :=
  .of_answer (fun _ _ _ => rfl) (fun _ _ s => by simp [statusRequest, doneWith, Answer.Fits, statusResult_length]) (fun _ => rfl) rfl

theorem unknownRequest_plain : PlainRequest unknownRequest :=
  .of_answer (fun _ _ _ => rfl) (fun _ _ _ => Nat.zero_le _) (fun _ => rfl) rfl

theorem mapPutRequest_plain : PlainRequest mapPutRequest :=
  .of_edit _ (fun _ _ _ => rfl) (fun f s => putEntry_fits f s.agent.cmdTag) (fun _ => rfl) rfl

theorem mapRemoveRequest_plain : PlainRequest mapRemoveRequest :=
  .of_edit _ (fun _ _ _ => rfl) (fun t _ => removeEntry_fits t) (fun _ => rfl) rfl

theorem mapClearRequest_plain : PlainRequest mapClearRequest :=
  .of_edit (fun _ _ => clearEdit) (fun c _ s => mapClearRequest_act c s) (fun _ _ _ => Nat.zero_le _) (fun _ => rfl) rfl

theorem mapCopyRequest_plain : PlainRequest mapCopyRequest :=
  .of_edit (fun _ s => copyEdit s.map.activeBank) (fun c _ s => mapCopyRequest_act c s)
    (fun _ _ _ => by simp [copyEdit, doneWith, Answer.Fits, countBytes]) (fun _ => rfl) rfl

theorem mapDefaultRequest_plain : PlainRequest mapDefaultRequest :=
  .of_edit (fun d _ => defaultEdit d) (fun c d s => mapDefaultRequest_act c s d)
    (fun _ _ _ => by simp [defaultEdit, doneWith, Answer.Fits]) (fun _ => rfl) rfl

theorem mapReadRequest_plain : PlainRequest mapReadRequest where
  act c y s := by
    simp only [mapReadRequest]
    split <;> rfl
  fits c y s := by
    simp only [mapReadRequest]
    split
    · simp [doneWith, Answer.Fits, mapReadResult_length]
    · exact Nat.zero_le _
  mark _ := rfl
  after := rfl

theorem commitRequest_plain : PlainRequest commitRequest where
  act c due s := by
    simp only [commitRequest]
    split
    · unfold commitNow
      split
      · rfl
      · split <;> rfl
    · rfl
  fits c due s := by
    simp only [commitRequest]
    split
    · exact commitNow_fits c due s
    · exact busyAnswer_fits _
  mark _ := rfl
  after := rfl

theorem commitCancelRequest_plain : PlainRequest commitCancelRequest where
  act c _ s := by
    simp only [commitCancelRequest]
    split <;> rfl
  fits c _ s := by
    simp only [commitCancelRequest]
    split
    · simp [doneWith, Answer.Fits, ltBytes]
    · simp [cancelRefusal, refusedWith, Answer.Fits, optBytes_length]
  mark _ := rfl
  after := rfl

theorem ctxArmRequest_plain : PlainRequest ctxArmRequest where
  act c y s := (ContextStep.arm s y.1 _).records
  fits c y s := by
    have h (f : Filter) : (typeFilterBytes f).length = 2 := by
      unfold typeFilterBytes
      split <;> simp
    simp [ctxArmRequest, doneWith, Answer.Fits, optBytes_length, h]
  mark _ := rfl
  after := rfl

theorem ctxDisarmRequest_plain : PlainRequest ctxDisarmRequest where
  act c i s := (ContextStep.setContext s i _).records
  fits c y s := by simp [ctxDisarmRequest, doneWith, Answer.Fits]
  mark _ := rfl
  after := rfl

theorem storeReadRequest_plain : PlainRequest storeReadRequest :=
  .of_answer (fun _ _ _ => rfl) (fun _ _ s => storeReadAnswer_fits s.capture _ _) (fun _ => rfl) rfl

theorem storeReleaseRequest_plain : PlainRequest storeReleaseRequest where
  act c i s := by
    simp only [storeReleaseRequest]
    split <;> rfl
  fits c i s := by
    simp only [storeReleaseRequest]
    split
    · exact Nat.zero_le _
    · simp [doneWith, Answer.Fits, tagBytes, ltBytes]
  mark _ := rfl
  after := rfl

theorem slotDefineRequest_plain : PlainRequest slotDefineRequest where
  act c y s := by
    simp only [slotDefineRequest]
    split
    · rfl
    · split_ifs <;> rfl
  fits c y s := by
    simp only [slotDefineRequest]
    split
    · simp [doneWith, Answer.Fits]
    · split_ifs <;> simp [doneWith, wrongSlotState, refusedWith, Answer.Fits]
  mark _ := rfl
  after := rfl

theorem slotWriteRequest_plain : PlainRequest slotWriteRequest where
  act c y s := by
    simp only [slotWriteRequest]
    split <;> rfl
  fits c y s := by
    simp only [slotWriteRequest]
    split <;> simp [doneWith, wrongSlotState, refusedWith, Answer.Fits]
  mark _ := rfl
  after := rfl

theorem slotPublishRequest_plain : PlainRequest slotPublishRequest where
  act c y s := by
    simp only [slotPublishRequest]
    split <;> rfl
  fits c y s := by
    simp only [slotPublishRequest]
    split <;> simp [doneWith, wrongSlotState, refusedWith, Answer.Fits]
  mark _ := rfl
  after := rfl

theorem State.startSlot_records (s : State) (i : Fin 16) (d : SlotData) : (s.startSlot i d).records = s.records :=
  (State.choose_records _).trans (State.joinDue_records _ i)

theorem slotStartRequest_plain : PlainRequest slotStartRequest where
  act c i s := by
    simp only [slotStartRequest]
    split
    · rfl
    · split
      · rfl
      · rfl
      · split_ifs
        · rfl
        · split
          · rfl
          · exact s.startSlot_records i _
  fits c i s := by
    simp only [slotStartRequest]
    split
    · simp [refusedWith, Answer.Fits]
    · split
      · simp [refusedWith, Answer.Fits]
      · simp [doneWith, Answer.Fits, optBytes_length, ltBytes]
      · split_ifs
        · simp [refusedWith, Answer.Fits]
        · split
          · next hr => simp [refusedWith, Answer.Fits, startClash_length hr]
          · simp [doneWith, Answer.Fits, optBytes_length, ltBytes]
  mark _ := rfl
  after := rfl

theorem slotStopRequest_plain : PlainRequest slotStopRequest where
  act c i s := by
    simp only [slotStopRequest]
    split
    · rfl
    · split_ifs <;> rfl
  fits c i s := by
    simp only [slotStopRequest]
    split
    · simp [wrongSlotState, refusedWith, Answer.Fits]
    · split_ifs <;> simp [doneWith, Answer.Fits]
  mark _ := rfl
  after := rfl

theorem slotClearRequest_plain : PlainRequest slotClearRequest where
  act c i s := by
    simp only [slotClearRequest]
    split
    · rfl
    · split_ifs <;> rfl
  fits c i s := by
    simp only [slotClearRequest]
    split
    · simp [doneWith, Answer.Fits]
    · split_ifs <;> simp [doneWith, wrongSlotState, refusedWith, Answer.Fits]
  mark _ := rfl
  after := rfl

theorem slotQueryRequest_plain : PlainRequest slotQueryRequest :=
  .of_answer (fun _ _ _ => rfl) (fun _ i s => by simp [slotQueryRequest, doneWith, Answer.Fits, slotQueryResult_length]) (fun _ => rfl) rfl

theorem pauseRequest_plain : PlainRequest pauseRequest where
  act c _ s := by
    simp only [pauseRequest]
    split
    · simp only [pauseNow]
      split
      · split_ifs <;> rfl
      · rfl
      · rfl
    · rfl
  fits c _ s := by
    simp only [pauseRequest]
    split
    · simp only [pauseNow]
      split
      · split_ifs <;> simp [doneWith, acceptedWith, Answer.Fits]
      · simp [acceptedWith, Answer.Fits]
      · simp [doneWith, Answer.Fits]
    · exact busyAnswer_fits _
  mark _ := rfl
  after := rfl

theorem resumeRequest_plain : PlainRequest resumeRequest where
  act c _ s := by
    simp only [resumeRequest]
    split_ifs <;> rfl
  fits c _ s := by simp [resumeRequest, doneWith, Answer.Fits]
  mark _ := rfl
  after := rfl

theorem condReadRequest_plain : PlainRequest condReadRequest :=
  .of_answer (fun _ _ _ => rfl)
    (fun _ _ _ => flatMap_length_le (n := 8) (w := 13) (l := condKinds) (Nat.le_refl 8) fun _ => condBytes_length _ _) (fun _ => rfl) rfl

theorem countReadRequest_plain : PlainRequest countReadRequest :=
  .of_answer (fun _ _ _ => rfl)
    (fun _ y s => by
      have h := groupCounts_length s y.2 y.1
      simp only [countReadRequest, doneWith, Answer.Fits, List.length_append, List.length_cons, List.length_nil]
      omega) (fun _ => rfl) rfl

theorem clearGroup_records (s : State) (g : CounterGroup) : (clearGroup s g).records = s.records := by
  cases g <;> rfl

theorem countClearRequest_plain : PlainRequest countClearRequest where
  act c y s := by
    simp only [countClearRequest]
    split
    · exact clearGroup_records s _
    · split <;> rfl
  fits c y s := by
    simp only [countClearRequest]
    split
    · exact Nat.zero_le _
    · split <;> exact Nat.zero_le _
  mark _ := rfl
  after := rfl

theorem configGetRequest_plain : PlainRequest configGetRequest :=
  .of_answer (fun _ _ _ => rfl) (fun _ _ s => by simp [configGetRequest, doneWith, Answer.Fits]) (fun _ => rfl) rfl

theorem tagsSetRequest_plain : PlainRequest tagsSetRequest where
  act c y s := by
    simp only [tagsSetRequest]
    split <;> rfl
  fits c y s := by
    simp only [tagsSetRequest]
    split
    · next hr => simp [refusedWith, Answer.Fits, tagsClash_length hr]
    · simp [doneWith, Answer.Fits, tagBytes]
  mark _ := rfl
  after := rfl

/-- The session commands with a plain request: all but CLOSE, COND_ACK, CONFIG_SET and RESTART. -/
def plainCommand : Instr → Bool
  | .ping | .status | .mapPut | .mapRemove | .mapClear | .mapCopy | .mapDefault | .mapRead | .commit | .commitCancel | .ctxArm | .ctxDisarm
  | .storeRead | .storeRelease | .slotDefine | .slotWrite | .slotPublish | .slotStart | .slotStop | .slotClear | .slotQuery | .pause
  | .resume | .condRead | .countRead | .countClear | .configGet | .tagsSet | .unknownCommand => true
  | _ => false

theorem exec_plain {i : Instr} (hi : plainCommand i = true) (s : State) : ∃ (α : Type) (isCode : Byte → Bool) (r : Request α),
    PlainRequest r ∧ exec i s = .next (s.sessionCommandOf isCode r) := by
  cases i with
  | ping => exact ⟨_, _, _, pingRequest_plain, rfl⟩
  | status => exact ⟨_, _, _, statusRequest_plain, rfl⟩
  | mapPut => exact ⟨_, _, _, mapPutRequest_plain, rfl⟩
  | mapRemove => exact ⟨_, _, _, mapRemoveRequest_plain, rfl⟩
  | mapClear => exact ⟨_, _, _, mapClearRequest_plain, rfl⟩
  | mapCopy => exact ⟨_, _, _, mapCopyRequest_plain, rfl⟩
  | mapDefault => exact ⟨_, _, _, mapDefaultRequest_plain, rfl⟩
  | mapRead => exact ⟨_, _, _, mapReadRequest_plain, rfl⟩
  | commit => exact ⟨_, _, _, commitRequest_plain, rfl⟩
  | commitCancel => exact ⟨_, _, _, commitCancelRequest_plain, rfl⟩
  | ctxArm => exact ⟨_, _, _, ctxArmRequest_plain, rfl⟩
  | ctxDisarm => exact ⟨_, _, _, ctxDisarmRequest_plain, rfl⟩
  | storeRead => exact ⟨_, _, _, storeReadRequest_plain, rfl⟩
  | storeRelease => exact ⟨_, _, _, storeReleaseRequest_plain, rfl⟩
  | slotDefine => exact ⟨_, _, _, slotDefineRequest_plain, rfl⟩
  | slotWrite => exact ⟨_, _, _, slotWriteRequest_plain, rfl⟩
  | slotPublish => exact ⟨_, _, _, slotPublishRequest_plain, rfl⟩
  | slotStart => exact ⟨_, _, _, slotStartRequest_plain, rfl⟩
  | slotStop => exact ⟨_, _, _, slotStopRequest_plain, rfl⟩
  | slotClear => exact ⟨_, _, _, slotClearRequest_plain, rfl⟩
  | slotQuery => exact ⟨_, _, _, slotQueryRequest_plain, rfl⟩
  | pause => exact ⟨_, _, _, pauseRequest_plain, rfl⟩
  | resume => exact ⟨_, _, _, resumeRequest_plain, rfl⟩
  | condRead => exact ⟨_, _, _, condReadRequest_plain, rfl⟩
  | countRead => exact ⟨_, _, _, countReadRequest_plain, rfl⟩
  | countClear => exact ⟨_, _, _, countClearRequest_plain, rfl⟩
  | configGet => exact ⟨_, _, _, configGetRequest_plain, rfl⟩
  | tagsSet => exact ⟨_, _, _, tagsSetRequest_plain, rfl⟩
  | unknownCommand => exact ⟨_, _, _, unknownRequest_plain, rfl⟩
  | _ => cases hi

/-! ### What is answered keeps a property, where there is room for the answer (R136, R142 to R144) -/

/-- The states in which a command of steps 1 to 3 is answered without being executed (R142, R143). -/
theorem State.judgeOutside_eq_some {u t : State} {c : Command} (h : u.judgeOutside c = some t) :
    (∃ a, a.Fits ∧ t = u.replyOutside c a) ∨ ∃ x, u.agent.session = some x ∧ t = u.answerRepeat x := by
  unfold State.judgeOutside at h
  split at h
  · cases h
    exact .inl ⟨_, Nat.zero_le _, rfl⟩
  · next x hx =>
    split_ifs at h
    · cases h
      exact .inl ⟨_, by simp [Answer.Fits, refusedWith], rfl⟩
    · cases h
      exact .inr ⟨x, hx, rfl⟩
    · cases h
      exact .inl ⟨_, by simp [Answer.Fits, refusedWith], rfl⟩

/-- A property `P` holds after what the Agent does around a command, where it held before; `R` is what holds between, from the command's
leaving the queue until the reply is placed. -/
structure AnswerKeeps (R P : State → Prop) : Prop where
  taken : ∀ {s v c}, P s → s.nextCommand = some (c, v) → R v
  ended : ∀ s, R s → R s.endSession
  advanced : ∀ s, R s → R s.advanceExpected
  outside : ∀ s c a, R s → a.Fits → P (s.replyOutside c a)
  repeated : ∀ s x, s.agent.session = some x → R s → P (s.answerRepeat x)
  settled : ∀ s c a tag, R s → a.Fits → P (s.settle c a tag none)

/-- What a request does to such a property. -/
structure RequestAnswers {α : Type} (R P : State → Prop) (r : Request α) : Prop where
  act : ∀ c y s, R s → r.parse c.args = .ok y → R (r.act c y s).2
  fits : ∀ c y s, (r.act c y s).1.Fits
  settled : ∀ y s c a tag, R s → a.Fits → P (r.after (s.settle c a tag (r.mark y)))

section

variable {R P : State → Prop}

theorem PlainRequest.answers {α : Type} {r : Request α} (hr : PlainRequest r) (hP : AnswerKeeps R P)
    (hR : ∀ s t, t.records = s.records → R s → R t) : RequestAnswers R P r where
  act c y s h _ := hR s _ (hr.act c y s) h
  fits := hr.fits
  settled y s c a tag h ha := by
    rw [hr.mark, hr.after]
    exact hP.settled s c a tag h ha

theorem AnswerKeeps.judged (hP : AnswerKeeps R P) {s v : State} {c : Command} (h : P s) (hv : s.nextCommand = some (c, v)) :
    R v.endIfExpired := by
  have hv := hP.taken h hv
  unfold State.endIfExpired
  split
  · split_ifs
    · exact hP.ended v hv
    · exact hv
  · exact hv

theorem AnswerKeeps.sessionCommandOf (hP : AnswerKeeps R P) {α : Type} {r : Request α} (hr : RequestAnswers R P r) {s : State} (h : P s)
    (isCode : Byte → Bool) : P (s.sessionCommandOf isCode r) := by
  unfold State.sessionCommandOf
  split
  · next c v hv =>
    have hu := hP.judged h hv
    split_ifs
    · simp only [State.judge]
      split
      · next t ht =>
        obtain ⟨a, ha, rfl⟩ | ⟨x, hx, rfl⟩ := State.judgeOutside_eq_some ht
        · exact hP.outside _ c a hu ha
        · exact hP.repeated _ x hx hu
      · split
        · exact hP.settled _ c _ _ (hP.advanced _ hu) (by simp [badArgument, refusedWith, Answer.Fits])
        · next y hy =>
          split_ifs
          · exact hr.settled y _ c _ _ (hr.act c y _ (hP.advanced _ hu) hy) (hr.fits c y _)
          · exact h
    · exact h
  · exact h

theorem AnswerKeeps.plain (hP : AnswerKeeps R P) (hR : ∀ s t, t.records = s.records → R s → R t) {i : Instr} (hi : plainCommand i = true)
    {s : State} (h : P s) : Ensures P (exec i s) := by
  obtain ⟨α, isCode, r, hr, he⟩ := exec_plain hi s
  exact ensures_of_eq he (hP.sessionCommandOf (hr.answers hP hR) h isCode)

/-- IDENTIFY is answered outside the session (R146, R175). -/
theorem AnswerKeeps.identify (hP : AnswerKeeps R P) {s : State} (h : P s) : Ensures P (execIdentify s) := by
  unfold execIdentify
  split
  · next c v hv =>
    split_ifs
    · exact (ensures_next _ _).mpr (hP.outside v c _ (hP.taken h hv) (by simp [identifyResult, doneWith, Answer.Fits, countBytes]))
    · exact (ensures_next _ _).mpr h
  · exact (ensures_next _ _).mpr h

/-- OPEN opens the session, resynchronises it, or answers as other commands do (R138, R139). -/
theorem AnswerKeeps.openSession (hP : AnswerKeeps R P) {s : State} (h : P s) (owed : ∀ u, R u → R u.oweAll)
    (replied : ∀ u c, R u → P (u.openReply c)) : Ensures P (execOpen s) := by
  unfold execOpen
  split
  · next c v hv =>
    have hu := hP.judged h hv
    split_ifs
    · refine (ensures_next _ _).mpr ?_
      simp only [State.judgeOpen]
      split
      · exact replied _ c (owed _ hu)
      · next x hx =>
        split_ifs
        · exact hP.outside _ c _ hu (by simp [refusedWith, Answer.Fits])
        · exact hP.repeated _ x hx hu
        · exact replied _ c hu
    · exact (ensures_next _ _).mpr h
  · exact (ensures_next _ _).mpr h

end

end Sys2Proof.Machine
end

section
/-! PROOF. Every step keeps every held cell whole and every output slot a whole cell with a valid header (O60). -/

namespace Sys2Proof.Machine

open Sys2Proof.Safety

/-- The invariant, list by list. -/
structure WholeCells (s : State) : Prop where
  input : ∀ c ∈ s.classifier.input.flatMap ClassItem.cells, CellWhole c
  offered : ∀ o ∈ s.classifier.offered, CellWhole o.media.cell
  commands : ∀ c ∈ s.agent.cmdQueue, CellWhole c
  mgmt : ∀ m ∈ s.queues.mgmt, CellWhole m.cell
  table : ∀ m ∈ s.queues.table, CellWhole m.cell
  media : ∀ m ∈ s.queues.media, CellWhole m.cell
  receiving : ∀ r, s.line.receiving = some r → r.hdr.len.toNat ≤ 122
  cached : ∀ x, s.agent.session = some x → x.cache.answer.Fits
  slot : ∀ o, s.sched.outSlot = some o → SlotWhole o

theorem outputSound_iff (s : State) : OutputSound s ↔ WholeCells s := by
  have held : (∀ c ∈ heldCells s, CellWhole c) ↔ (∀ c ∈ s.classifier.input.flatMap ClassItem.cells, CellWhole c)
      ∧ (∀ o ∈ s.classifier.offered, CellWhole o.media.cell) ∧ (∀ c ∈ s.agent.cmdQueue, CellWhole c)
      ∧ (∀ m ∈ s.queues.mgmt, CellWhole m.cell) ∧ (∀ m ∈ s.queues.table, CellWhole m.cell)
      ∧ ∀ m ∈ s.queues.media, CellWhole m.cell := by
    simp only [heldCells, List.forall_mem_append, List.forall_mem_map, and_assoc]
  rw [OutputSound, held]
  exact ⟨fun ⟨⟨h1, h2, h3, h4, h5, h6⟩, h7, h8, h9⟩ => ⟨h1, h2, h3, h4, h5, h6, h7, h8, h9⟩,
    fun ⟨h1, h2, h3, h4, h5, h6, h7, h8, h9⟩ => ⟨⟨h1, h2, h3, h4, h5, h6⟩, h7, h8, h9⟩⟩

theorem WholeCells.congr {s t : State} (h : WholeCells s) (ht : t.traffic = s.traffic) : WholeCells t :=
  (outputSound_iff t).mp (outputSound_congr ht ((outputSound_iff s).mpr h))

/-- A step that leaves the same traffic keeps the invariant. -/
theorem WholeCells.of_records {s t : State} (h : WholeCells s) (ht : t.records = s.records) : WholeCells t :=
  h.congr (congrArg Records.traffic ht)

theorem wholeCells_reset : WholeCells State.reset := (outputSound_iff _).mp outputSound_reset

/-! ### The Agent (R137, R145, R151) -/

/-- A management cell placed is one that the part builds (R137). -/
theorem WholeCells.placeMgmt {s : State} (h : WholeCells s) (tag : Tag) {body : List Byte} (mark : Option RestartKind)
    (hb : body.length ≤ 122) : WholeCells (s.placeMgmt tag body mark) :=
  { h with mgmt := List.forall_mem_append.mpr ⟨h.mgmt, fun _ hm => List.mem_singleton.mp hm ▸ cellWhole_buildCell _ _ _ hb⟩ }

/-- A reply placed whose answer fits (R137, R145). -/
theorem WholeCells.placeReply {s : State} (r : Reply) (repeated : Bool) (tag : Tag) (mark : Option RestartKind) (h : WholeCells s)
    (hr : r.answer.Fits) : WholeCells (s.placeMgmt tag (r.payload repeated) mark) := by
  have hr : r.answer.result.length ≤ 104 := hr
  exact h.placeMgmt tag mark (by rw [Reply.payload_length]; omega)

/-- Another session: its cached reply fits. -/
theorem WholeCells.setSession {s t : State} (h : WholeCells s) (x : Option Session) (ht : t.traffic = { s.traffic with session := x })
    (hx : ∀ y, x = some y → y.cache.answer.Fits) : WholeCells t :=
  WholeCells.congr (s := { s with agent := { s.agent with session := x } }) { h with cached := hx } ht

theorem WholeCells.settle {s : State} (h : WholeCells s) (c : Command) {a : Answer} (tag : Tag) (mark : Option RestartKind)
    (ha : a.Fits) : WholeCells (s.settle c a tag mark) := by
  refine WholeCells.placeReply (c.reply a) false tag mark (h.setSession _ rfl fun y hy => ?_) ha
  obtain ⟨x, -, rfl⟩ := Option.map_eq_some_iff.mp hy
  exact ha

theorem WholeCells.endSession {s : State} (h : WholeCells s) : WholeCells s.endSession := h.setSession none rfl nofun

theorem answerKeeps_wholeCells : AnswerKeeps WholeCells WholeCells where
  taken h hv := by
    obtain ⟨rest, rfl, -, -, -, cell, hq, -⟩ := State.nextCommand_eq_some hv
    exact { h with commands := fun c hc => h.commands c (hq ▸ List.mem_cons_of_mem cell hc) }
  ended _ h := h.endSession
  advanced s h := h.setSession _ rfl fun y hy => by
    obtain ⟨x, hx, rfl⟩ := Option.map_eq_some_iff.mp hy
    exact h.cached x hx
  outside s c a h ha := WholeCells.placeReply (c.reply a) false _ none (h.congr rfl) ha
  repeated s x hx h := by
    have hf := h.cached x hx
    refine WholeCells.placeReply x.cache true _ none (h.setSession _ rfl fun y hy => ?_) hf
    cases hy
    exact hf
  settled _ c _ tag h ha := h.settle c tag none ha

theorem WholeCells.openReply {s : State} (h : WholeCells s) (c : Command) : WholeCells (s.openReply c) := by
  let a := doneWith (openResult (c.seq + 1) s.agent.settings.sessionTimeout s.agent.noticeNo)
  have fits : a.Fits := by simp [a, doneWith, openResult, Answer.Fits]
  refine WholeCells.placeReply (c.reply a) false _ none (h.setSession _ rfl fun y hy => ?_) fits
  cases hy
  exact fits

/-- A request that leaves the traffic, whatever mark its reply carries. -/
theorem requestAnswers_wholeCells {α : Type} {r : Request α} (act : ∀ c y s, (r.act c y s).2.traffic = s.traffic)
    (fits : ∀ c y s, (r.act c y s).1.Fits) (after : ∀ s, WholeCells s → WholeCells (r.after s)) : RequestAnswers WholeCells WholeCells r :=
  ⟨fun c y s h _ => h.congr (act c y s), fits, fun _ _ c _ tag h ha => after _ (h.settle c tag _ ha)⟩

theorem closeRequest_wholeCells : RequestAnswers WholeCells WholeCells closeRequest :=
  requestAnswers_wholeCells (fun _ _ _ => rfl) (fun _ _ _ => Nat.zero_le _) fun _ h => h.endSession

theorem condAckRequest_fits (c : Command) (k : CondKind) (s : State) : (condAckRequest.act c k s).1.Fits := by
  simp [condAckRequest, doneWith, Answer.Fits, counterBytes, optBytes_length, ltBytes]

theorem configSetRequest_fits (c : Command) (y : SettingItem × Nat) (s : State) : (configSetRequest.act c y s).1.Fits := by
  simp [configSetRequest, doneWith, Answer.Fits]

theorem restartRequest_fits (c : Command) (k : RestartKind) (s : State) : (restartRequest.act c k s).1.Fits := by
  simp [restartRequest, doneWith, Answer.Fits]

theorem configure_traffic (s : State) (i : SettingItem) (v : Nat) : (s.configure i v).traffic = s.traffic := by
  cases i <;> rfl

theorem restartRequest_wholeCells : RequestAnswers WholeCells WholeCells restartRequest :=
  requestAnswers_wholeCells (fun _ _ _ => rfl) restartRequest_fits fun _ h => { h with commands := nofun }

theorem NoticePlaced.wholeCells {s t : State} (hn : NoticePlaced s t) (h : WholeCells s) : WholeCells t := by
  have body (number kind no : Byte) (session : Half) {contents : List Byte} (hc : contents.length ≤ 20) :
      (noticePayload session number kind contents).length ≤ 122 := by
    simp only [noticePayload, List.length_append, beBytes_length, List.length_cons, List.length_nil]
    omega
  cases hn with
  | unchanged ht => exact ht ▸ h
  | placed u kind contents _ short ht same =>
    subst ht
    exact WholeCells.congr (WholeCells.placeMgmt (h.of_records same) _ none (body _ _ 0 _ short)) rfl
  | condition k kind contents _ short ht =>
    subst ht
    exact WholeCells.congr (WholeCells.placeMgmt (h.congr (t := { s with agent := s.agent.setCond k (s.agent.cond k).clearOwed }) rfl) _
      none (body _ _ 0 _ short)) rfl

/-! ### The line (R69, R120 to R128) -/

/-- A cell is in reception after an examination as it was before, or behind the valid header just read (R124, R125). -/
theorem LineReceiver.examine_receiving (l : LineReceiver) (h : HeaderSample) : (l.examine h).1.receiving = l.receiving
    ∨ ∃ hd, HeaderSample.header h = some hd ∧ (l.examine h).1.delin = .locked 0
      ∧ (l.examine h).1.receiving = some ⟨hd, HeaderSample.anyIerr h, l.examinedLt⟩ := by
  unfold LineReceiver.examine
  split
  · exact .inl rfl
  · exact .inl rfl
  · exact .inl rfl
  · next hd _ hh =>
    split_ifs
    · exact .inl rfl
    · exact .inr ⟨hd, hh, rfl, rfl⟩
  · next hd _ hh => exact .inr ⟨hd, hh, rfl, rfl⟩
  · dsimp only
    split_ifs
    · exact .inl rfl
    · exact .inl rfl

/-- An examination that is one happens with no cell in reception, and hands over no cell (R121, R127; log 7). -/
theorem execHeaderExamination_examined (h : HeaderSample) (arrival : Lt) (s : State) : execHeaderExamination h arrival s = .next s
    ∨ ∃ t, s.line.receiving = none ∧ execHeaderExamination h arrival s = .next t
      ∧ t.records = { s with line := ((s.line.keepLt s.lt arrival).examine h).1 }.records := by
  unfold execHeaderExamination
  obtain ⟨line, reports, loss⟩ := (s.line.keepLt s.lt arrival).examine h
  split_ifs with hc
  · exact .inl rfl
  · refine .inr ⟨_, ?_, rfl, ?_⟩
    · simp only [Bool.or_eq_true, not_or, Bool.not_eq_true, Option.isSome_eq_false_iff, Option.isNone_iff_eq_none] at hc
      exact hc.1.2
    · have cells (b : Bool) : (if b then s.classifier.input ++ [.syncLoss false] else s.classifier.input).flatMap ClassItem.cells
          = s.classifier.input.flatMap ClassItem.cells := by
        cases b <;> simp [ClassItem.cells]
      simp only [State.records, State.traffic, cells]

theorem execHeaderExamination_wholeCells (b : HeaderSample) (arrival : Lt) {s : State} (h : WholeCells s) :
    Ensures WholeCells (execHeaderExamination b arrival s) := by
  obtain ht | ⟨t, -, ht, hr⟩ := execHeaderExamination_examined b arrival s
  · exact ensures_of_eq ht h
  · refine ensures_of_eq ht (WholeCells.of_records (s := { s with line := ((s.line.keepLt s.lt arrival).examine b).1 })
      { h with receiving := fun r hx => ?_ } hr)
    obtain he | ⟨hd, hh, -, he⟩ := (s.line.keepLt s.lt arrival).examine_receiving b
    · exact h.receiving r (he.symm.trans hx)
    · cases he.symm.trans hx
      exact readHeader_len hh

theorem execCellDelivery_wholeCells (payload : List RxByte) {s : State} (h : WholeCells s) :
    Ensures WholeCells (execCellDelivery payload s) := by
  unfold execCellDelivery
  split
  · exact (ensures_next _ _).mpr h
  · next r hr =>
    split_ifs with hp
    · exact (ensures_next _ _).mpr h
    · exact (ensures_next _ _).mpr { h with receiving := nofun }
    · refine (ensures_next _ _).mpr { h with receiving := nofun, input := ?_ }
      simp only [List.flatMap_append, List.forall_mem_append]
      refine ⟨h.input, fun c hc => ?_⟩
      obtain rfl : c = _ := by simpa [ClassItem.cells] using hc
      exact ⟨by simpa [Config.payloadBytes] using hp, h.receiving r hr⟩

/-! ### The cells that move on (R5, R48, R57, R112) -/

theorem execCellClassification_wholeCells {s : State} (h : WholeCells s) : Ensures WholeCells (execCellClassification s) := by
  obtain ht | ⟨c, arrival, rest, t, hi, ht, hc⟩ := execCellClassification_taken s
  · exact ensures_of_eq ht h
  · have hin := h.input
    rw [hi, List.flatMap_cons, List.forall_mem_append] at hin
    obtain ⟨hcell, hrest⟩ := hin
    have whole : CellWhole c := hcell c (List.mem_singleton.mpr rfl)
    have taken : WholeCells { s with classifier := { s.classifier with input := rest } } := { h with input := hrest }
    refine ensures_of_eq ht ?_
    cases hc with
    | passed hr => exact taken.of_records hr
    | offered o cell hr =>
      exact WholeCells.of_records (s := { s with classifier := { s.classifier with input := rest, offered := s.classifier.offered ++ [o] } })
        { taken with offered := List.forall_mem_append.mpr ⟨h.offered, fun _ ho => List.mem_singleton.mp ho ▸ cell ▸ whole⟩ } hr
    | queued _ _ hr =>
      exact WholeCells.of_records (s := { s with
          classifier := { s.classifier with input := rest }, agent := { s.agent with cmdQueue := s.agent.cmdQueue ++ [c] } })
        { taken with commands := List.forall_mem_append.mpr ⟨h.commands, fun _ ho => List.mem_singleton.mp ho ▸ whole⟩ } hr

theorem execMediaAdmission_wholeCells {s : State} (h : WholeCells s) : Ensures WholeCells (execMediaAdmission s) := by
  obtain ht | ⟨o, rest, t, ho, ht, hr⟩ := execMediaAdmission_taken s
  · exact ensures_of_eq ht h
  · have hoff := h.offered
    rw [ho] at hoff
    obtain ⟨whole, hrest⟩ := List.forall_mem_cons.mp hoff
    have taken : WholeCells { s with classifier := { s.classifier with offered := rest } } := { h with offered := hrest }
    refine ensures_of_eq ht ?_
    obtain hr | ⟨-, hr⟩ := hr
    · exact taken.of_records hr
    · exact WholeCells.of_records (s := { s with
          classifier := { s.classifier with offered := rest }, queues := { s.queues with media := s.queues.media ++ [o.media] } })
        { taken with media := List.forall_mem_append.mpr ⟨h.media, fun _ hm => List.mem_singleton.mp hm ▸ whole⟩ } hr

/-- The slot drawn from whole cells is whole, and so are the cells left. -/
theorem WholeCells.drawn {s : State} (h : WholeCells s) {choice : SlotChoice} {q : Queues} (hd : Drawn s.queues choice q) (n : Nat) :
    WholeCells { s with queues := q, sched := { s.sched with shareCount := n, outSlot := some (choice.outSlot s.lt) } } := by
  cases hd with
  | mgmt c rest head =>
    obtain ⟨whole, hrest⟩ := List.forall_mem_cons.mp (head ▸ h.mgmt)
    exact { h with mgmt := hrest, slot := fun o ho => by cases ho; exact slotWhole_cellBytes _ _ _ whole }
  | table c rest ms head left =>
    obtain ⟨whole, hrest⟩ := List.forall_mem_cons.mp (head ▸ h.table)
    exact { h with
      table := hrest, media := fun m hm => h.media m (left.subset hm)
      slot := fun o ho => by cases ho; exact slotWhole_cellBytes _ _ _ whole }
  | media m ms left =>
    obtain ⟨whole, hrest⟩ := List.forall_mem_cons.mp fun m hm => h.media m (left.subset hm)
    exact { h with media := hrest, slot := fun o ho => by cases ho; exact slotWhole_cellBytes _ _ _ (MediaCell.sent_whole s.lt whole) }
  | filler ms left =>
    exact { h with
      media := fun m hm => h.media m (left.subset hm)
      slot := fun o ho => by cases ho; exact slotWhole_cellBytes _ _ _ cellWhole_filler }

theorem execSlotDecision_wholeCells {s : State} (h : WholeCells s) : Ensures WholeCells (execSlotDecision s) := by
  obtain ht | ⟨choice, q, t, -, hd, ht, hr⟩ := execSlotDecision_drawn s
  · exact ensures_of_eq ht h
  · exact ensures_of_eq ht ((h.drawn hd _).of_records hr)

theorem execTableCellPlacement_wholeCells {s : State} (h : WholeCells s) : Ensures WholeCells (execTableCellPlacement s) := by
  obtain ht | ⟨c, t, -, whole, ht, hr⟩ := execTableCellPlacement_placed s
  · exact ensures_of_eq ht h
  · exact ensures_of_eq ht (WholeCells.of_records (s := { s with queues := { s.queues with table := s.queues.table ++ [c] } })
      { h with table := List.forall_mem_append.mpr ⟨h.table, fun _ hm => List.mem_singleton.mp hm ▸ whole⟩ } hr)

/-! ### Restarts and events (R63, R130, R158, R161) -/

/-- The bytes of the slot that has ended stand as they were, and no cell is held (R63, R158, R159). -/
theorem wholeCells_emptied {s t : State} (h : WholeCells s)
    (ht : t.traffic = ⟨[], [], Queues.reset, none, s.sched.spendMark, .serving, none, []⟩) : WholeCells t := by
  refine WholeCells.congr (s := { State.reset with sched := { Scheduler.reset with outSlot := s.sched.spendMark } })
    { wholeCells_reset with slot := fun o ho => ?_ } ht
  obtain ⟨o', ho', rfl⟩ := Option.map_eq_some_iff.mp ho
  exact h.slot o' ho'

theorem execWarmRestart_wholeCells {s : State} (h : WholeCells s) : Ensures WholeCells (execWarmRestart s) := by
  unfold execWarmRestart
  split_ifs
  · exact (ensures_next _ _).mpr ((wholeCells_emptied (t := s.warm) h rfl).of_records (State.choose_records _))
  · exact (ensures_next _ _).mpr h

theorem execColdRestart_wholeCells {s : State} (h : WholeCells s) : Ensures WholeCells (execColdRestart s) := by
  unfold execColdRestart
  split_ifs
  · exact (ensures_next _ _).mpr (wholeCells_emptied h rfl)
  · exact (ensures_next _ _).mpr h

theorem EventStep.traffic {s t : State} (h : EventStep s t) : t.traffic = s.traffic := by
  obtain ⟨k, e, rs, -, rfl⟩ := h
  rfl

theorem execTrefEdge_traffic (s : State) : Ensures (fun t => t.traffic = s.traffic) (execTrefEdge s) := by
  unfold execTrefEdge
  split_ifs
  · exact (ensures_next _ _).mpr rfl
  · exact (ensures_next _ _).mpr rfl

theorem WholeCells.endIfExpired {s : State} (h : WholeCells s) : WholeCells s.endIfExpired := by
  unfold State.endIfExpired
  split
  · split_ifs
    · exact h.endSession
    · exact h
  · exact h

/-- Every command keeps the invariant. -/
theorem exec_wholeCells (i : Instr) {s : State} (h : WholeCells s) : Ensures WholeCells (exec i s) := by
  have agent := answerKeeps_wholeCells
  have command {α : Type} {r : Request α} (hr : RequestAnswers WholeCells WholeCells r) (code : Byte) :
      Ensures WholeCells (.next (s.sessionCommand code r)) :=
    (ensures_next _ _).mpr (agent.sessionCommandOf hr h _)
  have quiet (hq : quietStep i = true) : Ensures WholeCells (exec i s) := fun t ht => h.of_records (exec_quiet hq s t ht)
  have plain (hp : plainCommand i = true) : Ensures WholeCells (exec i s) := agent.plain (fun _ _ hr hs => hs.of_records hr) hp h
  cases i with
  | hardReset => exact ensures_of_eq rfl (wholeCells_reset.congr rfl)
  | headerExamination b arrival => exact execHeaderExamination_wholeCells b arrival h
  | cellDelivery payload => exact execCellDelivery_wholeCells payload h
  | cellClassification => exact execCellClassification_wholeCells h
  | mediaAdmission => exact execMediaAdmission_wholeCells h
  | slotDecision => exact execSlotDecision_wholeCells h
  | tableCellPlacement => exact execTableCellPlacement_wholeCells h
  | conditionEvent k =>
    obtain ⟨t, ht, hs⟩ := execConditionEvent_step k s
    exact ensures_of_eq ht (h.congr hs.traffic)
  | lineCauseGone =>
    obtain ⟨t, ht, hs⟩ := execLineCauseGone_step s
    exact ensures_of_eq ht (h.congr hs.traffic)
  | sessionExpiry => exact (ensures_next _ _).mpr h.endIfExpired
  | completionNotice => exact fun t ht => (execCompletionNotice_placed s t ht).wholeCells h
  | captureReadyNotice => exact fun t ht => (execCaptureReadyNotice_placed s t ht).wholeCells h
  | conditionNotice => exact fun t ht => (execConditionNotice_placed s t ht).wholeCells h
  | warmRestart => exact execWarmRestart_wholeCells h
  | coldRestart => exact execColdRestart_wholeCells h
  | identify => exact agent.identify h
  | openSession => exact agent.openSession h (fun _ hu => hu.congr rfl) fun _ c hu => hu.openReply c
  | closeSession => exact command closeRequest_wholeCells _
  | condAck => exact command (requestAnswers_wholeCells (fun _ _ _ => rfl) condAckRequest_fits fun _ h => h) _
  | configSet => exact command (requestAnswers_wholeCells (fun _ _ s => configure_traffic s _ _) configSetRequest_fits fun _ h => h) _
  | restart => exact command restartRequest_wholeCells _
  | trefEdge => exact fun t ht => h.congr (execTrefEdge_traffic s t ht)
  | resetNRelease | captureHandoff | assemblyDeadlineReached _ | captureBindingUpdate | syncLossCaptureAbandon | syncLossResync | commitDue
  | queueEmptyEvent | slotDue _ => exact quiet rfl
  | ping | status | mapPut | mapRemove | mapClear | mapCopy | mapDefault | mapRead | commit | commitCancel | ctxArm | ctxDisarm
  | storeRead | storeRelease | slotDefine | slotWrite | slotPublish | slotStart | slotStop | slotClear | slotQuery | pause
  | resume | condRead | countRead | countClear | configGet | tagsSet | unknownCommand => exact plain rfl

end Sys2Proof.Machine

namespace Sys2Proof.Proofs

open Sys2Proof.Machine Sys2Proof.Safety

/-- Settles O60: a cell enters whole, from the line behind a valid header or built by the part within 122 bytes, and every step that moves one
leaves it whole; the slot's bytes are those of a whole cell under a header check of their own. -/
theorem stepKeepsOutputSound : Obligations.StepKeepsOutputSound := by
  unfold Obligations.StepKeepsOutputSound
  intro s t hs ht
  have hw := (outputSound_iff s).mp hs
  exact (outputSound_iff t).mpr (step_ensures hw (fun _ => hw.congr rfl) (fun i _ hu => exec_wholeCells i hu) t ht)

end Sys2Proof.Proofs
end

section
/-! PROOF. Every step keeps the bounds of the four queues (O54). -/

namespace Sys2Proof.Machine

open Sys2Proof.Safety

/-! ### Around every command (R51, R136) -/

/-- The queues are within bounds and a management buffer is free. -/
def RoomToAnswer (s : State) : Prop := QueuesBounded s ∧ s.queues.mgmt.length < 8

theorem RoomToAnswer.congr {s t : State} (h : RoomToAnswer s) (ht : t.traffic = s.traffic) : RoomToAnswer t := by
  have hq : t.queues = s.queues := congrArg Traffic.queues ht
  exact ⟨queuesBounded_congr ht h.1, hq ▸ h.2⟩

/-- A management cell placed where a buffer is free. -/
theorem RoomToAnswer.placeMgmt {s : State} (h : RoomToAnswer s) (tag : Tag) (body : List Byte) (mark : Option RestartKind) :
    QueuesBounded (s.placeMgmt tag body mark) := by
  obtain ⟨⟨-, htable, hmedia, hcmd⟩, hroom⟩ := h
  exact ⟨by simpa using hroom, htable, hmedia, hcmd⟩

/-- A step that leaves the queues alone. -/
theorem queuesBounded_of_eq {s t : State} (h : QueuesBounded s) (hq : t.queues = s.queues)
    (hc : t.agent.cmdQueue = s.agent.cmdQueue ∨ t.agent.cmdQueue = []) : QueuesBounded t := by
  obtain ⟨hmgmt, htable, hmedia, hcmd⟩ := h
  rw [QueuesBounded, hq]
  obtain hc | hc := hc
  · exact ⟨hmgmt, htable, hmedia, hc ▸ hcmd⟩
  · exact ⟨hmgmt, htable, hmedia, hc ▸ Nat.zero_le 4⟩

theorem answerKeeps_queuesBounded : AnswerKeeps RoomToAnswer QueuesBounded where
  taken h hv := by
    obtain ⟨rest, rfl, -, hroom, -, cell, hq, -⟩ := State.nextCommand_eq_some hv
    obtain ⟨hmgmt, htable, hmedia, hcmd⟩ := h
    rw [hq, List.length_cons] at hcmd
    exact ⟨⟨hmgmt, htable, hmedia, Nat.le_of_succ_le hcmd⟩, hroom⟩
  ended s h := ⟨queuesBounded_of_eq h.1 rfl (.inl rfl), h.2⟩
  advanced s h := ⟨queuesBounded_of_eq h.1 rfl (.inl rfl), h.2⟩
  outside s c a h _ := RoomToAnswer.placeMgmt ⟨queuesBounded_of_eq h.1 rfl (.inl rfl), h.2⟩ _ _ none
  repeated s x _ h := RoomToAnswer.placeMgmt ⟨queuesBounded_of_eq h.1 rfl (.inl rfl), h.2⟩ _ _ none
  settled s c a tag h _ := RoomToAnswer.placeMgmt ⟨queuesBounded_of_eq h.1 rfl (.inl rfl), h.2⟩ tag _ none

/-- A request that leaves the traffic, whatever mark its reply carries. -/
theorem requestAnswers_queuesBounded {α : Type} {r : Request α} (act : ∀ c y s, (r.act c y s).2.traffic = s.traffic)
    (fits : ∀ c y s, (r.act c y s).1.Fits) (after : ∀ s, QueuesBounded s → QueuesBounded (r.after s)) :
    RequestAnswers RoomToAnswer QueuesBounded r :=
  ⟨fun c y s h _ => h.congr (act c y s), fits,
    fun y _ _ _ tag h _ => after _ (RoomToAnswer.placeMgmt ⟨queuesBounded_of_eq h.1 rfl (.inl rfl), h.2⟩ tag _ (r.mark y))⟩

theorem State.noticeAllowed_room {s : State} (h : s.noticeAllowed = true) : s.queues.mgmt.length + 2 ≤ 8 := by
  simp only [State.noticeAllowed, Bool.and_eq_true, decide_eq_true_eq] at h
  exact h.2

theorem NoticePlaced.queuesBounded {s t : State} (hn : NoticePlaced s t) (h : QueuesBounded s) : QueuesBounded t := by
  cases hn with
  | unchanged ht => exact ht ▸ h
  | placed u kind contents allowed _ ht same =>
    have hroom := State.noticeAllowed_room allowed
    have hu : RoomToAnswer u := RoomToAnswer.congr (s := s) ⟨h, by omega⟩ (congrArg Records.traffic same)
    exact ht ▸ queuesBounded_of_eq (hu.placeMgmt _ _ none) rfl (.inl rfl)
  | condition k kind contents allowed _ ht =>
    have hroom := State.noticeAllowed_room allowed
    have hu : RoomToAnswer { s with agent := s.agent.setCond k (s.agent.cond k).clearOwed } :=
      RoomToAnswer.congr (s := s) ⟨h, by omega⟩ rfl
    exact ht ▸ queuesBounded_of_eq (hu.placeMgmt _ _ none) rfl (.inl rfl)

/-! ### The cells that move (R5, R48, R57, R112, R135) -/

theorem execCellClassification_queuesBounded {s : State} (h : QueuesBounded s) : Ensures QueuesBounded (execCellClassification s) := by
  obtain ht | ⟨c, arrival, rest, t, -, ht, hc⟩ := execCellClassification_taken s
  · exact ensures_of_eq ht h
  · refine ensures_of_eq ht ?_
    cases hc with
    | passed hr => exact queuesBounded_congr (congrArg Records.traffic hr) h
    | offered o _ hr => exact queuesBounded_congr (congrArg Records.traffic hr) h
    | queued _ room hr =>
      obtain ⟨hmgmt, htable, hmedia, -⟩ := h
      exact queuesBounded_congr (congrArg Records.traffic hr) ⟨hmgmt, htable, hmedia, by simpa using room⟩

theorem execMediaAdmission_queuesBounded {s : State} (h : QueuesBounded s) : Ensures QueuesBounded (execMediaAdmission s) := by
  obtain ht | ⟨o, rest, t, -, ht, hr⟩ := execMediaAdmission_taken s
  · exact ensures_of_eq ht h
  · refine ensures_of_eq ht ?_
    obtain hr | ⟨room, hr⟩ := hr
    · exact queuesBounded_congr (congrArg Records.traffic hr) h
    · obtain ⟨hmgmt, htable, -, hcmd⟩ := h
      exact queuesBounded_congr (congrArg Records.traffic hr) ⟨hmgmt, htable, by simpa using room, hcmd⟩

/-- What is left of the queues after a slot is drawn is no longer than it was. -/
theorem Drawn.length_le {q q' : Queues} {choice : SlotChoice} (h : Drawn q choice q') :
    q'.mgmt.length ≤ q.mgmt.length ∧ q'.table.length ≤ q.table.length ∧ q'.media.length ≤ q.media.length := by
  cases h with
  | mgmt c rest head => exact ⟨by simp [head], le_rfl, le_rfl⟩
  | table c rest ms head left => exact ⟨le_rfl, by simp [head], left.length_le⟩
  | media m ms left => exact ⟨le_rfl, le_rfl, Nat.le_of_succ_le left.length_le⟩
  | filler ms left => exact ⟨le_rfl, le_rfl, left.length_le⟩

theorem execSlotDecision_queuesBounded {s : State} (h : QueuesBounded s) : Ensures QueuesBounded (execSlotDecision s) := by
  obtain ht | ⟨choice, q, t, -, hd, ht, hr⟩ := execSlotDecision_drawn s
  · exact ensures_of_eq ht h
  · obtain ⟨hmgmt, htable, hmedia, hcmd⟩ := h
    obtain ⟨h1, h2, h3⟩ := hd.length_le
    exact ensures_of_eq ht
      (queuesBounded_congr (congrArg Records.traffic hr) ⟨h1.trans hmgmt, h2.trans htable, h3.trans hmedia, hcmd⟩)

theorem execTableCellPlacement_queuesBounded {s : State} (h : QueuesBounded s) : Ensures QueuesBounded (execTableCellPlacement s) := by
  obtain ht | ⟨c, t, room, -, ht, hr⟩ := execTableCellPlacement_placed s
  · exact ensures_of_eq ht h
  · obtain ⟨hmgmt, -, hmedia, hcmd⟩ := h
    exact ensures_of_eq ht (queuesBounded_congr (congrArg Records.traffic hr) ⟨hmgmt, by simpa using room, hmedia, hcmd⟩)

/-! ### Restarts and the session's end -/

theorem queuesBounded_emptied {s : State} (hq : s.queues = Queues.reset) (hc : s.agent.cmdQueue = []) : QueuesBounded s :=
  queuesBounded_of_eq queuesBounded_reset hq (.inr hc)

theorem execWarmRestart_queuesBounded {s : State} (h : QueuesBounded s) : Ensures QueuesBounded (execWarmRestart s) := by
  unfold execWarmRestart
  split_ifs
  · exact (ensures_next _ _).mpr
      (queuesBounded_congr (congrArg Records.traffic (State.choose_records _)) (queuesBounded_emptied (s := s.warm) rfl rfl))
  · exact (ensures_next _ _).mpr h

theorem execColdRestart_queuesBounded {s : State} (h : QueuesBounded s) : Ensures QueuesBounded (execColdRestart s) := by
  unfold execColdRestart
  split_ifs
  · exact (ensures_next _ _).mpr (queuesBounded_emptied rfl rfl)
  · exact (ensures_next _ _).mpr h

theorem queuesBounded_endIfExpired {s : State} (h : QueuesBounded s) : QueuesBounded s.endIfExpired := by
  unfold State.endIfExpired
  split
  · split_ifs
    · exact queuesBounded_of_eq h rfl (.inl rfl)
    · exact h
  · exact h

/-- Every command keeps the bounds. -/
theorem exec_queuesBounded (i : Instr) {s : State} (h : QueuesBounded s) : Ensures QueuesBounded (exec i s) := by
  have agent := answerKeeps_queuesBounded
  have command {α : Type} {r : Request α} (hr : RequestAnswers RoomToAnswer QueuesBounded r) (code : Byte) :
      Ensures QueuesBounded (.next (s.sessionCommand code r)) :=
    (ensures_next _ _).mpr (agent.sessionCommandOf hr h _)
  have quiet (hq : quietStep i = true) : Ensures QueuesBounded (exec i s) :=
    fun t ht => queuesBounded_congr (congrArg Records.traffic (exec_quiet hq s t ht)) h
  have plain (hp : plainCommand i = true) : Ensures QueuesBounded (exec i s) :=
    agent.plain (fun _ _ hr hs => hs.congr (congrArg Records.traffic hr)) hp h
  cases i with
  | hardReset => exact ensures_of_eq rfl (queuesBounded_emptied rfl rfl)
  | headerExamination b arrival =>
    obtain ⟨line, items, rs, ht⟩ := execHeaderExamination_frame b arrival s
    exact ensures_of_eq ht (queuesBounded_of_eq h rfl (.inl rfl))
  | cellDelivery payload =>
    obtain ⟨line, items, ht⟩ := execCellDelivery_frame payload s
    exact ensures_of_eq ht (queuesBounded_of_eq h rfl (.inl rfl))
  | cellClassification => exact execCellClassification_queuesBounded h
  | mediaAdmission => exact execMediaAdmission_queuesBounded h
  | slotDecision => exact execSlotDecision_queuesBounded h
  | tableCellPlacement => exact execTableCellPlacement_queuesBounded h
  | conditionEvent k =>
    obtain ⟨t, ht, hs⟩ := execConditionEvent_step k s
    exact ensures_of_eq ht (queuesBounded_congr hs.traffic h)
  | lineCauseGone =>
    obtain ⟨t, ht, hs⟩ := execLineCauseGone_step s
    exact ensures_of_eq ht (queuesBounded_congr hs.traffic h)
  | sessionExpiry => exact (ensures_next _ _).mpr (queuesBounded_endIfExpired h)
  | completionNotice => exact fun t ht => (execCompletionNotice_placed s t ht).queuesBounded h
  | captureReadyNotice => exact fun t ht => (execCaptureReadyNotice_placed s t ht).queuesBounded h
  | conditionNotice => exact fun t ht => (execConditionNotice_placed s t ht).queuesBounded h
  | warmRestart => exact execWarmRestart_queuesBounded h
  | coldRestart => exact execColdRestart_queuesBounded h
  | identify => exact agent.identify h
  | openSession =>
    exact agent.openSession h (fun _ hu => hu.congr rfl)
      fun _ c hu => RoomToAnswer.placeMgmt ⟨queuesBounded_of_eq hu.1 rfl (.inl rfl), hu.2⟩ _ _ none
  | closeSession =>
    exact command (requestAnswers_queuesBounded (fun _ _ _ => rfl) (fun _ _ _ => Nat.zero_le _)
      fun _ hu => queuesBounded_of_eq hu rfl (.inl rfl)) _
  | condAck => exact command (requestAnswers_queuesBounded (fun _ _ _ => rfl) condAckRequest_fits fun _ hu => hu) _
  | configSet => exact command (requestAnswers_queuesBounded (fun _ _ s => configure_traffic s _ _) configSetRequest_fits fun _ hu => hu) _
  | restart =>
    exact command (requestAnswers_queuesBounded (fun _ _ _ => rfl) restartRequest_fits
      fun _ hu => queuesBounded_of_eq hu rfl (.inr rfl)) _
  | trefEdge => exact fun t ht => queuesBounded_congr (execTrefEdge_traffic s t ht) h
  | resetNRelease | captureHandoff | assemblyDeadlineReached _ | captureBindingUpdate | syncLossCaptureAbandon | syncLossResync | commitDue
  | queueEmptyEvent | slotDue _ => exact quiet rfl
  | ping | status | mapPut | mapRemove | mapClear | mapCopy | mapDefault | mapRead | commit | commitCancel | ctxArm | ctxDisarm
  | storeRead | storeRelease | slotDefine | slotWrite | slotPublish | slotStart | slotStop | slotClear | slotQuery | pause
  | resume | condRead | countRead | countClear | configGet | tagsSet | unknownCommand => exact plain rfl

end Sys2Proof.Machine

namespace Sys2Proof.Proofs

open Sys2Proof.Machine Sys2Proof.Safety

/-- Settles O54: each block places a cell only where it has seen a free buffer; the Agent sees one free before it takes a command, and two
before it builds a notice. -/
theorem stepKeepsQueuesBounded : Obligations.StepKeepsQueuesBounded := by
  unfold Obligations.StepKeepsQueuesBounded
  intro s t hs ht
  exact step_ensures hs (fun _ => queuesBounded_congr (s := s) rfl hs) (fun i _ hu => exec_queuesBounded i hu) t ht

end Sys2Proof.Proofs
end

section
/-! PROOF. Every step keeps the delineation counts, the conditions' flags, the configuration ranges and the restart mark, each on its own
(O59). -/

namespace Sys2Proof.Machine

open Sys2Proof.Safety

/-! ### The four records -/

/-- Each of the four records, sound in one state, is sound in the other. -/
structure KeepsRecords (s t : State) : Prop where
  delineation : DelineationSound s → DelineationSound t
  conditions : ConditionsSound s → ConditionsSound t
  settings : SettingsLegal s → SettingsLegal t
  restart : RestartSound s → RestartSound t

theorem KeepsRecords.refl (s : State) : KeepsRecords s s := ⟨id, id, id, id⟩

theorem KeepsRecords.trans {s t u : State} (h : KeepsRecords s t) (h' : KeepsRecords t u) : KeepsRecords s u :=
  ⟨h'.delineation ∘ h.delineation, h'.conditions ∘ h.conditions, h'.settings ∘ h.settings, h'.restart ∘ h.restart⟩

/-- The same, said from the later step back. -/
theorem KeepsRecords.after {s t u : State} (h' : KeepsRecords t u) (h : KeepsRecords s t) : KeepsRecords s u := h.trans h'

theorem KeepsRecords.of_records {s t : State} (h : t.records = s.records) : KeepsRecords s t := by
  have traffic : t.traffic = s.traffic := congrArg Records.traffic h
  have receiving : t.line.receiving = s.line.receiving := congrArg Traffic.receiving traffic
  have lt : t.lt = s.lt := congrArg Records.lt h
  have delin : t.line.delin = s.line.delin := congrArg Records.delin h
  have examinedLt : t.line.examinedLt = s.line.examinedLt := congrArg Records.examinedLt h
  have examinedAgo : t.line.examinedAgo = s.line.examinedAgo := congrArg Records.examinedAgo h
  have conds : t.agent.conds = s.agent.conds := congrArg Records.conds h
  have settings : t.agent.settings = s.agent.settings := congrArg Records.settings h
  have share : t.sched.shareCount = s.sched.shareCount := congrArg Records.shareCount h
  refine ⟨fun hd => ?_, fun hc => ?_, fun hs => ?_, restartSound_congr traffic⟩
  · rwa [DelineationSound, delin, receiving, lt, examinedLt, examinedAgo]
  · simpa only [ConditionsSound, Agent.cond, conds] using hc
  · rwa [SettingsLegal, settings, share]

/-! ### The restart mark (R63, R157, R158) -/

theorem restartSound_iff (s : State) : RestartSound s ↔ (s.agent.mode = .serving → restartMarks s = [])
    ∧ (s.agent.mode = .restarting → (restartMarks s).length = 1 ∧ s.agent.cmdQueue = []) := by
  unfold RestartSound
  cases s.agent.mode <;> simp

/-- As many marks are on their way as were, and a queue that has to be empty is. -/
theorem restartSound_of_marks {s t : State} (hm : t.agent.mode = s.agent.mode)
    (hk : (restartMarks t).length = (restartMarks s).length)
    (hc : s.agent.mode = .restarting → s.agent.cmdQueue = [] → t.agent.cmdQueue = []) (h : RestartSound s) : RestartSound t := by
  obtain ⟨hs, hr⟩ := (restartSound_iff s).mp h
  refine (restartSound_iff t).mpr ⟨fun ht => ?_, fun ht => ?_⟩
  · rw [← List.length_eq_zero_iff, hk, hs (hm ▸ ht)]
    rfl
  · obtain ⟨h1, h2⟩ := hr (hm ▸ ht)
    exact ⟨hk.trans h1, hc (hm ▸ ht) h2⟩

theorem restartSound_of_serving {s : State} (hm : s.agent.mode = .serving) (hk : restartMarks s = []) : RestartSound s :=
  (restartSound_iff s).mpr ⟨fun _ => hk, fun h => by rw [hm] at h; cases h⟩

theorem restartMarks_placeMgmt (s : State) (tag : Tag) (body : List Byte) (mark : Option RestartKind) :
    (restartMarks (s.placeMgmt tag body mark)).length = (restartMarks s).length + mark.toList.length := by
  cases mark <;>
    simp only [restartMarks, State.placeMgmt_queues, State.placeMgmt_sched, List.filterMap_append, List.filterMap_cons, List.filterMap_nil,
      List.length_append, List.length_nil, List.length_cons, Option.toList] <;>
    omega

/-- An unmarked management cell placed leaves the four records. -/
theorem KeepsRecords.placeMgmt (s : State) (tag : Tag) (body : List Byte) : KeepsRecords s (s.placeMgmt tag body none) :=
  ⟨id, id, id, restartSound_of_marks rfl (restartMarks_placeMgmt s tag body none) fun _ hc => hc⟩

theorem KeepsRecords.placeNotice (s : State) (kind : Byte) (contents : List Byte) : KeepsRecords s (s.placeNotice kind contents) :=
  ⟨id, id, id, restartSound_of_marks rfl (restartMarks_placeMgmt s _ _ none) fun _ hc => hc⟩

/-- So does another session, and another count. -/
theorem KeepsRecords.setSession (s : State) (x : Option Session) (k : AgentCounters) :
    KeepsRecords s { s with agent := { s.agent with session := x, counters := k } } := ⟨id, id, id, id⟩

/-! ### Conditions (R162 to R165) -/

/-- An entry that owes a notice is RAISED, and only that of LINE_UNLOCKED is ever ACKNOWLEDGED. -/
def CondEntry.Sound (k : CondKind) (e : CondEntry) : Prop :=
  (e.noticeOwed = true → e.state = .raised) ∧ (e.state = .acknowledged → k = .lineUnlocked)

theorem conditionsSound_iff (s : State) : ConditionsSound s ↔ ∀ k, (s.agent.cond k).Sound k := Iff.rfl

theorem CondEntry.Sound.takeEvent {k : CondKind} {e : CondEntry} (h : e.Sound k) (lt : Lt) (sessionOpen : Bool) :
    (e.takeEvent lt sessionOpen).Sound k := by
  unfold CondEntry.takeEvent
  split
  · exact ⟨fun _ => rfl, nofun⟩
  · exact h
  · exact h

theorem CondEntry.Sound.takeCauseGone {k : CondKind} {e : CondEntry} (h : e.Sound k) : e.takeCauseGone.Sound k := by
  unfold CondEntry.takeCauseGone
  split
  · exact ⟨nofun, nofun⟩
  · next he => exact ⟨fun ho => (nomatch he.symm.trans (h.1 ho)), nofun⟩
  · exact h

theorem CondEntry.Sound.acknowledge {k : CondKind} {e : CondEntry} (h : e.Sound k) : (e.acknowledge k).Sound k := by
  unfold CondEntry.acknowledge
  split
  · split_ifs with hk
    · exact ⟨nofun, fun _ => hk⟩
    · exact ⟨nofun, nofun⟩
  · exact h
  · exact h

theorem CondEntry.Sound.openOwed {k : CondKind} {e : CondEntry} (h : e.Sound k) : e.openOwed.Sound k :=
  ⟨of_decide_eq_true, h.2⟩

theorem CondEntry.Sound.clearOwed {k : CondKind} {e : CondEntry} (h : e.Sound k) : e.clearOwed.Sound k := ⟨nofun, h.2⟩

/-- One entry replaced by a sound one. -/
theorem conditionsSound_setCond {s t : State} {k : CondKind} {e : CondEntry} (h : ConditionsSound s) (he : e.Sound k)
    (ht : t.agent.conds = (s.agent.setCond k e).conds) : ConditionsSound t := by
  refine (conditionsSound_iff t).mpr fun l => ?_
  have hl : t.agent.cond l = (s.agent.setCond k e).cond l := by rw [Agent.cond, ht, Agent.cond]
  rw [hl]
  by_cases hk : l = k
  · subst hk
    rwa [Agent.cond_setCond_same]
  · rw [Agent.cond_setCond_other _ _ hk]
    exact h l

/-- Every entry changed alike. -/
theorem conditionsSound_mapAll {s t : State} (f : CondEntry → CondEntry) (hf : ∀ k e, CondEntry.Sound k e → (f e).Sound k)
    (h : ConditionsSound s) (ht : t.agent.conds = mapAll f s.agent.conds) : ConditionsSound t := by
  refine (conditionsSound_iff t).mpr fun k => ?_
  have hk : t.agent.cond k = f (s.agent.cond k) := by rw [Agent.cond, ht, mapAll_get, Agent.cond]
  exact hk ▸ hf k _ (h k)

theorem KeepsRecords.endSession (s : State) : KeepsRecords s s.endSession :=
  ⟨id, fun h => conditionsSound_mapAll _ (fun _ _ he => he.clearOwed) h rfl, id, id⟩

theorem KeepsRecords.oweAll (s : State) : KeepsRecords s s.oweAll :=
  ⟨id, fun h => conditionsSound_mapAll _ (fun _ _ he => he.openOwed) h rfl, id, id⟩

theorem execConditionEvent_keepsRecords (k : CondKind) (s : State) : Ensures (KeepsRecords s) (execConditionEvent k s) := by
  unfold execConditionEvent
  split
  · exact (ensures_next _ _).mpr (.refl s)
  · exact (ensures_next _ _).mpr ⟨id, fun h => conditionsSound_setCond h (CondEntry.Sound.takeEvent (h k) _ _) rfl, id, id⟩

theorem execLineCauseGone_keepsRecords (s : State) : Ensures (KeepsRecords s) (execLineCauseGone s) := by
  unfold execLineCauseGone
  split
  · exact (ensures_next _ _).mpr (.refl s)
  · exact (ensures_next _ _).mpr ⟨id, fun h => conditionsSound_setCond h (CondEntry.Sound.takeCauseGone (h .lineUnlocked)) rfl, id, id⟩

theorem NoticePlaced.keepsRecords {s t : State} (hn : NoticePlaced s t) : KeepsRecords s t := by
  cases hn with
  | unchanged ht => exact ht ▸ .refl s
  | placed u kind contents _ _ ht same => exact ht ▸ (KeepsRecords.of_records same).trans (.placeNotice u _ _)
  | condition k kind contents _ _ ht =>
    have cleared : KeepsRecords s { s with agent := s.agent.setCond k (s.agent.cond k).clearOwed } :=
      ⟨id, fun h => conditionsSound_setCond h (CondEntry.Sound.clearOwed (h k)) rfl, id, id⟩
    exact ht ▸ cleared.trans (.placeNotice _ _ _)

/-! ### Around every command (R136, R142 to R144, R157) -/

/-- The Agent serves, and the four records are kept. -/
def ServesKeeping (s u : State) : Prop := KeepsRecords s u ∧ u.agent.mode = .serving

theorem ServesKeeping.step {s u v : State} (h : ServesKeeping s u) (hv : KeepsRecords u v) (hm : v.agent.mode = u.agent.mode) :
    ServesKeeping s v :=
  ⟨h.1.trans hv, hm.trans h.2⟩

theorem answerKeeps_records (s : State) : AnswerKeeps (ServesKeeping s) (KeepsRecords s) where
  taken {u v c} h hv := by
    obtain ⟨rest, rfl, hm, -⟩ := State.nextCommand_eq_some hv
    exact ⟨h.trans ⟨id, id, id, restartSound_of_marks rfl rfl fun hr => nomatch hm.symm.trans hr⟩, hm⟩
  ended u h := h.step (.endSession u) rfl
  advanced u h := h.step ⟨id, id, id, id⟩ rfl
  outside u _ _ h _ := h.1.trans ((KeepsRecords.setSession u _ _).trans (.placeMgmt _ _ _))
  repeated u _ _ h := h.1.trans ((KeepsRecords.setSession u _ _).trans (.placeMgmt _ _ _))
  settled u _ _ _ h _ := h.1.trans ((KeepsRecords.setSession u _ _).trans (.placeMgmt _ _ _))

/-- A request with an unmarked reply that keeps the four records. -/
theorem requestAnswers_records {α : Type} {r : Request α} (s : State) (act : ∀ c y u, r.parse c.args = .ok y → KeepsRecords u (r.act c y u).2)
    (serving : ∀ c y u, (r.act c y u).2.agent.mode = u.agent.mode) (fits : ∀ c y u, (r.act c y u).1.Fits)
    (mark : ∀ y, r.mark y = none) (after : ∀ u, KeepsRecords u (r.after u)) : RequestAnswers (ServesKeeping s) (KeepsRecords s) r :=
  ⟨fun c y u h hp => h.step (act c y u hp) (serving c y u), fits,
    fun y u c a tag h ha => (mark y ▸ (answerKeeps_records s).settled u c a tag h ha).trans (after _)⟩

theorem condAckRequest_records (s : State) : RequestAnswers (ServesKeeping s) (KeepsRecords s) condAckRequest :=
  requestAnswers_records s (fun _ k _ _ => ⟨id, fun h => conditionsSound_setCond h (CondEntry.Sound.acknowledge (h k)) rfl, id, id⟩) (fun _ _ _ => rfl)
    condAckRequest_fits (fun _ => rfl) .refl

theorem closeRequest_records (s : State) : RequestAnswers (ServesKeeping s) (KeepsRecords s) closeRequest :=
  requestAnswers_records s (fun _ _ u _ => .refl u) (fun _ _ _ => rfl) (fun _ _ _ => Nat.zero_le _) (fun _ => rfl) .endSession

/-- What CONFIG_SET parses is in its item's range (R171, R200). -/
theorem configSetArgs_inRange {bs : List Byte} {i : SettingItem} {v : Nat} (h : configSetArgs bs = .ok (i, v)) :
    i.range.1 ≤ v ∧ v ≤ i.range.2 := by
  unfold configSetArgs at h
  obtain ⟨⟨item, bs1⟩, -, h⟩ := except_bind_ok h
  obtain ⟨⟨value, bs2⟩, hv, h⟩ := except_bind_ok h
  cases h
  exact readRange_eq_some (argument_eq_ok hv)

/-- A value in its item's range keeps the settings legal; a new table share holds the share counter (R58, R171). -/
theorem KeepsRecords.configure (s : State) {i : SettingItem} {v : Nat} (hv : i.range.1 ≤ v ∧ v ≤ i.range.2) :
    KeepsRecords s (s.configure i v) := by
  have restart (h : RestartSound s) : RestartSound (s.configure i v) := restartSound_congr (configure_traffic s i v) h
  refine ⟨id, id, fun ⟨hstale, hshare, hsession, hassembly, hcount⟩ => ?_, restart⟩
  cases i with
  | staleLimit => exact ⟨hv, hshare, hsession, hassembly, hcount⟩
  | tableShare => exact ⟨hstale, hv, hsession, hassembly, min_le_right _ _⟩
  | sessionTimeout => exact ⟨hstale, hshare, hv, hassembly, hcount⟩
  | assemblyTimeout => exact ⟨hstale, hshare, hsession, hv, hcount⟩

theorem configSetRequest_records (s : State) : RequestAnswers (ServesKeeping s) (KeepsRecords s) configSetRequest :=
  requestAnswers_records s (fun _ _ u hp => .configure u (configSetArgs_inRange hp)) (fun _ _ _ => rfl)
    configSetRequest_fits (fun _ => rfl) .refl

/-- RESTART's reply carries the one mark, and the queued commands go (R157). -/
theorem restartRequest_records (s : State) : RequestAnswers (ServesKeeping s) (KeepsRecords s) restartRequest where
  act _ _ _ h _ := h
  fits := restartRequest_fits
  settled k u c a tag h _ := by
    refine h.1.trans ⟨id, id, id, fun hr => (restartSound_iff _).mpr ⟨nofun, fun _ => ⟨?_, rfl⟩⟩⟩
    have unmarked : restartMarks u = [] := ((restartSound_iff u).mp hr).1 h.2
    exact (restartMarks_placeMgmt _ tag _ (some k)).trans (congrArg (·.length + 1) unmarked)

theorem KeepsRecords.endIfExpired (s : State) : KeepsRecords s s.endIfExpired := by
  unfold State.endIfExpired
  split
  · split_ifs
    · exact .endSession s
    · exact .refl s
  · exact .refl s

/-! ### Delineation (R66, R69, R121 to R126) -/

/-- The confirm count is 1 or 2, the miss count 0 to 4. -/
def Delineation.Counted : Delineation → Prop
  | .hunt => True
  | .confirm c => 1 ≤ c ∧ c ≤ 2
  | .locked m => m ≤ 4

theorem Delineation.counted_iff (d : Delineation) :
    d.Counted ↔ (∀ c, d = .confirm c → 1 ≤ c ∧ c ≤ 2) ∧ ∀ m, d = .locked m → m ≤ 4 := by
  cases d <;> simp [Delineation.Counted]

/-- An examination keeps the counts within their bounds: the third valid header locks, the fifth miss loses the line. -/
theorem LineReceiver.examine_counted (l : LineReceiver) (h : HeaderSample) (hl : l.delin.Counted) : (l.examine h).1.delin.Counted := by
  unfold LineReceiver.examine
  split
  · exact hl
  · exact ⟨le_rfl, Nat.le_succ 1⟩
  · trivial
  · split_ifs with hc
    · exact ⟨Nat.succ_pos _, hc⟩
    · exact Nat.zero_le 4
  · exact Nat.zero_le 4
  · dsimp only
    split_ifs with hm
    · exact Nat.lt_succ_iff.mp hm
    · trivial

theorem execHeaderExamination_keepsRecords (b : HeaderSample) (arrival : Lt) (s : State) :
    Ensures (KeepsRecords s) (execHeaderExamination b arrival s) := by
  obtain ht | ⟨t, hnone, ht, hr⟩ := execHeaderExamination_examined b arrival s
  · exact ensures_of_eq ht (.refl s)
  · have examined : KeepsRecords s { s with line := ((s.line.keepLt s.lt arrival).examine b).1 } := by
      refine ⟨fun ⟨hc, hm, _, _⟩ => ?_, id, id, id⟩
      have counted := (s.line.keepLt s.lt arrival).examine_counted b ((Delineation.counted_iff s.line.delin).mpr ⟨hc, hm⟩)
      obtain ⟨hc, hm⟩ := (Delineation.counted_iff _).mp counted
      refine ⟨hc, hm, fun r hx => ?_, ?_⟩
      · obtain he | ⟨hd, hh, hlocked, he⟩ := (s.line.keepLt s.lt arrival).examine_receiving b
        · exact nomatch hnone.symm.trans (he.symm.trans hx)
        · cases he.symm.trans hx
          exact ⟨hlocked, readHeader_len hh, (LineReceiver.examine_examinedLt _ _).symm⟩
      · rw [LineReceiver.examine_examinedLt, LineReceiver.examine_examinedAgo]
        exact (LineReceiver.keepLt_lt _ _ _).symm
    exact ensures_of_eq ht (examined.trans (.of_records hr))

theorem execCellDelivery_keepsRecords (payload : List RxByte) (s : State) : Ensures (KeepsRecords s) (execCellDelivery payload s) := by
  unfold execCellDelivery
  split
  · exact (ensures_next _ _).mpr (.refl s)
  · split_ifs
    · exact (ensures_next _ _).mpr (.refl s)
    · exact (ensures_next _ _).mpr ⟨fun ⟨hc, hm, _, ht⟩ => ⟨hc, hm, nofun, ht⟩, id, id, id⟩
    · exact (ensures_next _ _).mpr ⟨fun ⟨hc, hm, _, ht⟩ => ⟨hc, hm, nofun, ht⟩, id, id, id⟩

/-- A tick advances LT and the count since the position last examined together (R66; log 6). -/
theorem execTrefEdge_keepsRecords (s : State) : Ensures (KeepsRecords s) (execTrefEdge s) := by
  unfold execTrefEdge
  split_ifs
  · exact (ensures_next _ _).mpr (.refl s)
  · refine (ensures_next _ _).mpr ⟨fun ⟨hc, hm, hr, ht⟩ => ⟨hc, hm, hr, ?_⟩, id, id, id⟩
    show s.lt + 1 = s.line.examinedLt + BitVec.ofNat 48 (s.line.examinedAgo + 1)
    rw [ht, BitVec.ofNat_add, BitVec.add_assoc]
    rfl

/-! ### The cells that move (R5, R48, R57, R112) -/

theorem execCellClassification_keepsRecords (s : State) : Ensures (KeepsRecords s) (execCellClassification s) := by
  obtain ht | ⟨c, arrival, rest, t, -, ht, hc⟩ := execCellClassification_taken s
  · exact ensures_of_eq ht (.refl s)
  · refine ensures_of_eq ht ?_
    cases hc with
    | passed hr => exact (KeepsRecords.of_records hr).after ⟨id, id, id, id⟩
    | offered o _ hr => exact (KeepsRecords.of_records hr).after ⟨id, id, id, id⟩
    | queued serving _ hr =>
      exact (KeepsRecords.of_records hr).after
        ⟨id, id, id, restartSound_of_marks rfl rfl fun hm => nomatch serving.symm.trans hm⟩

theorem execMediaAdmission_keepsRecords (s : State) : Ensures (KeepsRecords s) (execMediaAdmission s) := by
  obtain ht | ⟨o, rest, t, -, ht, hr⟩ := execMediaAdmission_taken s
  · exact ensures_of_eq ht (.refl s)
  · obtain hr | ⟨-, hr⟩ := hr
    · exact ensures_of_eq ht ((KeepsRecords.of_records hr).after ⟨id, id, id, id⟩)
    · exact ensures_of_eq ht ((KeepsRecords.of_records hr).after ⟨id, id, id, id⟩)

/-- A mark leaves the management queue with its cell, for the slot that carries it (R46, R56). -/
theorem Drawn.marks_length {q q' : Queues} {choice : SlotChoice} (h : Drawn q choice q') (departure : Lt) :
    (q'.mgmt.filterMap MgmtCell.mark ++ (choice.outSlot departure).mark.toList).length = (q.mgmt.filterMap MgmtCell.mark).length := by
  cases h with
  | mgmt c rest head =>
    rw [head, List.filterMap_cons, SlotChoice.outSlot]
    cases c.mark <;> simp
  | table | media | filler => simp [SlotChoice.outSlot]

theorem SlotChoice.shareAfter_le (choice : SlotChoice) (shareCount share : Nat) : choice.shareAfter shareCount share ≤ share := by
  cases choice with
  | table => exact Nat.zero_le _
  | mgmt | media | filler => exact min_le_right _ _

theorem execSlotDecision_keepsRecords (s : State) : Ensures (KeepsRecords s) (execSlotDecision s) := by
  obtain ht | ⟨choice, q, t, hm, hd, ht, hr⟩ := execSlotDecision_drawn s
  · exact ensures_of_eq ht (.refl s)
  · have begun : KeepsRecords s { s with queues := q, sched := { s.sched with
        shareCount := choice.shareAfter s.sched.shareCount s.agent.settings.tableShare, outSlot := some (choice.outSlot s.lt) } } := by
      refine ⟨id, id, fun ⟨hstale, hshare, hsession, hassembly, _⟩ =>
        ⟨hstale, hshare, hsession, hassembly, choice.shareAfter_le _ _⟩, restartSound_of_marks rfl ?_ fun _ hc => hc⟩
      refine (hd.marks_length s.lt).trans ?_
      rw [restartMarks, hm]
      simp
    exact ensures_of_eq ht (begun.trans (.of_records hr))

theorem execTableCellPlacement_keepsRecords (s : State) : Ensures (KeepsRecords s) (execTableCellPlacement s) := by
  obtain ht | ⟨c, t, -, -, ht, hr⟩ := execTableCellPlacement_placed s
  · exact ensures_of_eq ht (.refl s)
  · exact ensures_of_eq ht ((KeepsRecords.of_records hr).after ⟨id, id, id, id⟩)

/-! ### Resets and restarts (R64, R65, R130, R158, R159, R167) -/

theorem KeepsRecords.warm (s : State) : KeepsRecords s s.warm := by
  refine ⟨fun _ => ⟨nofun, nofun, nofun, ?_⟩, fun _ k => ?_, fun ⟨hstale, hshare, hsession, hassembly, _⟩ =>
    ⟨hstale, hshare, hsession, hassembly, le_rfl⟩, fun _ => restartSound_of_serving rfl ?_⟩
  · exact (BitVec.add_zero s.lt).symm
  · have hk : s.warm.agent.cond k = CondEntry.reset := reset_cond k
    rw [hk]
    exact ⟨nofun, nofun⟩
  · exact congrArg Option.toList (spendMark_mark s.sched)

theorem execWarmRestart_keepsRecords (s : State) : Ensures (KeepsRecords s) (execWarmRestart s) := by
  unfold execWarmRestart
  split_ifs
  · exact (ensures_next _ _).mpr ((KeepsRecords.warm s).trans (.of_records (State.choose_records _)))
  · exact (ensures_next _ _).mpr (.refl s)

theorem execColdRestart_keepsRecords (s : State) : Ensures (KeepsRecords s) (execColdRestart s) := by
  unfold execColdRestart
  split_ifs
  · exact (ensures_next _ _).mpr ⟨fun _ => delineationSound_reset, fun _ => conditionsSound_reset, fun _ => settingsLegal_reset,
      fun _ => restartSound_of_serving rfl (congrArg Option.toList (spendMark_mark s.sched))⟩
  · exact (ensures_next _ _).mpr (.refl s)

/-- Every command keeps the four records. -/
theorem exec_keepsRecords (i : Instr) (s : State) : Ensures (KeepsRecords s) (exec i s) := by
  have agent := answerKeeps_records s
  have start := KeepsRecords.refl s
  have command {α : Type} {r : Request α} (hr : RequestAnswers (ServesKeeping s) (KeepsRecords s) r) (code : Byte) :
      Ensures (KeepsRecords s) (.next (s.sessionCommand code r)) :=
    (ensures_next _ _).mpr (agent.sessionCommandOf hr start _)
  have quiet (hq : quietStep i = true) : Ensures (KeepsRecords s) (exec i s) := fun t ht => .of_records (exec_quiet hq s t ht)
  have plain (hp : plainCommand i = true) : Ensures (KeepsRecords s) (exec i s) :=
    agent.plain (fun _ _ hr hu => hu.step (.of_records hr) (congrArg (fun x => x.traffic.mode) hr)) hp start
  cases i with
  | hardReset =>
    exact ensures_of_eq rfl ⟨fun _ => delineationSound_reset, fun _ => conditionsSound_reset, fun _ => settingsLegal_reset,
      fun _ => restartSound_reset⟩
  | headerExamination b arrival => exact execHeaderExamination_keepsRecords b arrival s
  | cellDelivery payload => exact execCellDelivery_keepsRecords payload s
  | cellClassification => exact execCellClassification_keepsRecords s
  | mediaAdmission => exact execMediaAdmission_keepsRecords s
  | slotDecision => exact execSlotDecision_keepsRecords s
  | tableCellPlacement => exact execTableCellPlacement_keepsRecords s
  | conditionEvent k => exact execConditionEvent_keepsRecords k s
  | lineCauseGone => exact execLineCauseGone_keepsRecords s
  | sessionExpiry => exact (ensures_next _ _).mpr (.endIfExpired s)
  | completionNotice => exact fun t ht => (execCompletionNotice_placed s t ht).keepsRecords
  | captureReadyNotice => exact fun t ht => (execCaptureReadyNotice_placed s t ht).keepsRecords
  | conditionNotice => exact fun t ht => (execConditionNotice_placed s t ht).keepsRecords
  | warmRestart => exact execWarmRestart_keepsRecords s
  | coldRestart => exact execColdRestart_keepsRecords s
  | identify => exact agent.identify start
  | openSession =>
    exact agent.openSession start (fun u hu => hu.step (.oweAll u) rfl)
      fun _ c hu => hu.1.trans ((KeepsRecords.setSession _ _ _).trans (.placeMgmt _ _ _))
  | closeSession => exact command (closeRequest_records s) _
  | condAck => exact command (condAckRequest_records s) _
  | configSet => exact command (configSetRequest_records s) _
  | restart => exact command (restartRequest_records s) _
  | trefEdge => exact execTrefEdge_keepsRecords s
  | resetNRelease | captureHandoff | assemblyDeadlineReached _ | captureBindingUpdate | syncLossCaptureAbandon | syncLossResync | commitDue
  | queueEmptyEvent | slotDue _ => exact quiet rfl
  | ping | status | mapPut | mapRemove | mapClear | mapCopy | mapDefault | mapRead | commit | commitCancel | ctxArm | ctxDisarm
  | storeRead | storeRelease | slotDefine | slotWrite | slotPublish | slotStart | slotStop | slotClear | slotQuery | pause
  | resume | condRead | countRead | countClear | configGet | tagsSet | unknownCommand => exact plain rfl

end Sys2Proof.Machine

namespace Sys2Proof.Proofs

open Sys2Proof.Machine Sys2Proof.Safety

/-- Settles O59: each record by the steps that touch it; from one command's taking to its reply the Agent serves, so no mark is on its way
but the one that RESTART adds. -/
theorem stepKeepsSmallRecords : Obligations.StepKeepsSmallRecords := by
  unfold Obligations.StepKeepsSmallRecords
  intro s t ht
  have kept : KeepsRecords s t := step_ensures (P := KeepsRecords s) (.refl s) (fun _ => .of_records rfl)
    (fun i u hu v hv => hu.trans (exec_keepsRecords i u v hv)) t ht
  exact ⟨kept.delineation, kept.conditions, kept.settings, kept.restart⟩

end Sys2Proof.Proofs
end

section
/-! PROOF. Output slots: SLOT_DECISION by what the queues hold, stale heads, and the sent counters (O27, O28, O30). -/

namespace Sys2Proof.Machine

open Sys2Proof.Safety

/-! ### The decision (R57, R59) -/

section

variable {q : Queues} {shareCount share : Nat} {departure : Lt}

theorem decideSlot_mgmt {c : MgmtCell} {rest : List MgmtCell} (h : q.mgmt = c :: rest) :
    decideSlot q shareCount share departure = ⟨.mgmt c, { q with mgmt := rest }, 0⟩ := by
  simp only [decideSlot, h]

theorem decideSlot_table {c : TableCell} {rest : List TableCell} (hm : q.mgmt = []) (h : q.table = c :: rest)
    (hturn : q.media = [] ∨ shareCount = share) : decideSlot q shareCount share departure = ⟨.table c, { q with table := rest }, 0⟩ := by
  simp only [decideSlot, hm, h, if_pos hturn]

/-- The choice once the stale decisions have left a media queue and discarded `n` cells: its head, else the table head, else filler. -/
def remade (q : Queues) (n : Nat) : Decision :=
  match q.media, q.table with
  | m :: ms, _ => ⟨.media m, { q with media := ms }, n⟩
  | [], t :: ts => ⟨.table t, { q with table := ts }, n⟩
  | [], [] => ⟨.filler, q, n⟩

/-- Unless media cells wait and it is the table's turn, the stale decisions come first (R57, R59). -/
theorem decideSlot_remade (hm : q.mgmt = []) (ht : ¬ (q.table ≠ [] ∧ q.media ≠ [] ∧ shareCount = share)) :
    decideSlot q shareCount share departure =
      remade { q with media := (dropStaleHeads departure q.media).1 } (dropStaleHeads departure q.media).2 := by
  obtain ⟨mgmt, table, media⟩ := q
  subst hm
  cases table with
  | nil =>
    simp only [decideSlot, remade]
    obtain ⟨left, n⟩ := dropStaleHeads departure media
    cases left <;> rfl
  | cons t ts =>
    cases media with
    | nil => rfl
    | cons m ms =>
      have hturn : ¬ (m :: ms = [] ∨ shareCount = share) :=
        fun h => h.elim (List.cons_ne_nil m ms) fun h => ht ⟨List.cons_ne_nil t ts, List.cons_ne_nil m ms, h⟩
      simp only [decideSlot, remade, if_neg hturn]
      obtain ⟨left, n⟩ := dropStaleHeads departure (m :: ms)
      cases left <;> rfl

theorem dropStaleHeads_keep {m : MediaCell} (ms : List MediaCell) (h : m.discarded departure = false) :
    dropStaleHeads departure (m :: ms) = (m :: ms, 0) := by
  simp [dropStaleHeads, h]

theorem dropStaleHeads_discard {m : MediaCell} (ms : List MediaCell) (h : m.discarded departure = true) :
    dropStaleHeads departure (m :: ms) = ((dropStaleHeads departure ms).1, (dropStaleHeads departure ms).2 + 1) := by
  simp [dropStaleHeads, h]

/-- Empty queues leave the filler cell. -/
theorem remade_nil (hmedia : q.media = []) (htable : q.table = []) : remade { q with media := [] } 0 = ⟨.filler, q, 0⟩ := by
  obtain ⟨mgmt, table, media⟩ := q
  subst hmedia htable
  rfl

theorem remade_succ (q : Queues) (n : Nat) : remade q (n + 1) = { remade q n with discards := (remade q n).discards + 1 } := by
  unfold remade
  split <;> rfl

/-- With a stale head the decision is that without the head, one cell more being discarded (R59). -/
theorem decideSlot_discard {m : MediaCell} {rest : List MediaCell} (hm : q.mgmt = []) (ht : ¬ (q.table ≠ [] ∧ shareCount = share))
    (hq : q.media = m :: rest) (hd : m.discarded departure = true) :
    decideSlot q shareCount share departure =
      { decideSlot { q with media := rest } shareCount share departure with
        discards := (decideSlot { q with media := rest } shareCount share departure).discards + 1 } := by
  rw [decideSlot_remade hm fun h => ht ⟨h.1, h.2.2⟩, hq, dropStaleHeads_discard rest hd, remade_succ,
    decideSlot_remade (q := { q with media := rest }) hm fun h => ht ⟨h.1, h.2.2⟩]

end

theorem MediaCell.isStale_iff (m : MediaCell) (departure : Lt) :
    m.isStale departure = true ↔ m.staleLimit < (departure - m.arrival).toNat :=
  decide_eq_true_iff

/-- The stale decision of the statements is the model's (R73). -/
theorem MediaCell.discarded_iff (s : State) (m : MediaCell) : m.discarded s.lt = true ↔ StaleDiscard s m := by
  simp only [MediaCell.discarded, MediaCell.isStale_iff, StaleDiscard, Bool.and_eq_true, beq_iff_eq]

/-! ### The slot begun (R56, R58, R62) -/

/-- The state in which a decision's slot has begun. -/
def State.begin (s : State) (d : Decision) : State :=
  { s with
    queues := d.queues
    sched := ⟨d.choice.shareAfter s.sched.shareCount s.agent.settings.tableShare, s.sched.counters.after d s.lt,
      some (d.choice.outSlot s.lt)⟩
    reports := s.reports ++ List.replicate d.discards (.event .staleDrops)
    classifier := { s.classifier with
      queueEmpties :=
        if s.queues.media ≠ [] ∧ d.queues.media = [] then s.classifier.queueEmpties + 1 else s.classifier.queueEmpties } }

section

variable {s : State}

theorem exec_slotDecision_waits (h : s.resetLow = true ∨ s.sched.restartMark.isSome = true) : exec .slotDecision s = .next s :=
  if_pos (Bool.or_eq_true_iff.mpr h)

theorem exec_slotDecision_begins (hr : s.resetLow = false) (hm : s.sched.restartMark = none) :
    exec .slotDecision s = .next (s.begin s.decideNext) :=
  if_neg (by simp [hr, hm])

/-- A slot that takes nothing from the media queue leaves the Classifier and the reports. -/
theorem State.begin_noMedia (choice : SlotChoice) {q : Queues} (hq : q.media = s.queues.media) : s.begin ⟨choice, q, 0⟩ =
    slotBegun s q (choice.shareAfter s.sched.shareCount s.agent.settings.tableShare) (s.sched.counters.after ⟨choice, q, 0⟩ s.lt)
      (choice.outSlot s.lt) := by
  have hempty : ¬ (s.queues.media ≠ [] ∧ q.media = []) := fun h => h.1 (hq ▸ h.2)
  simp only [State.begin, slotBegun, if_neg hempty, List.replicate_zero, List.append_nil]

/-- A slot that carries the media head takes it alone. -/
theorem State.begin_media {m : MediaCell} {rest : List MediaCell} (hq : s.queues.media = m :: rest) :
    s.begin ⟨.media m, { s.queues with media := rest }, 0⟩ =
      { slotBegun s { s.queues with media := rest } (shareRaised s)
          (s.sched.counters.after ⟨.media m, { s.queues with media := rest }, 0⟩ s.lt) ((SlotChoice.media m).outSlot s.lt) with
        classifier := { s.classifier with
          queueEmpties := if rest = [] then s.classifier.queueEmpties + 1 else s.classifier.queueEmpties } } := by
  have hmedia : s.queues.media ≠ [] := hq ▸ List.cons_ne_nil m rest
  simp only [State.begin, slotBegun, hmedia, ne_eq, not_false_eq_true, true_and, List.replicate_zero, List.append_nil]
  rfl

end

/-! ### The counters of a slot (R62, R73, R76) -/

section

variable (k : OutCounters) (departure : Lt) (q : Queues)

theorem OutCounters.after_mgmt (c : MgmtCell) :
    k.after ⟨.mgmt c, q, 0⟩ departure = { k with managementSent := Counter.inc k.managementSent } := by
  simp [OutCounters.after]

theorem OutCounters.after_table (c : TableCell) :
    k.after ⟨.table c, q, 0⟩ departure = { k with tableSent := Counter.inc k.tableSent } := by
  simp [OutCounters.after]

theorem OutCounters.after_filler : k.after ⟨.filler, q, 0⟩ departure = { k with fillerSent := Counter.inc k.fillerSent } := by
  simp [OutCounters.after]

theorem OutCounters.after_media (m : MediaCell) : k.after ⟨.media m, q, 0⟩ departure =
    { k with
      mediaSent := Counter.inc k.mediaSent
      staleSent := if m.staleLimit < (departure - m.arrival).toNat then Counter.inc k.staleSent else k.staleSent
      shortStamp := if m.restamp = true ∧ m.cell.hdr.k = true ∧ m.cell.hdr.len.toNat < 6 then Counter.inc k.shortStamp
        else k.shortStamp } := by
  simp only [OutCounters.after, MediaCell.isStale_iff, MediaCell.shortStamp, MediaCell.wantsStamp, Counter.add_zero,
    Bool.and_eq_true, decide_eq_true_eq, and_assoc]

/-- A discard counted with the slot's others, or before them (R74). -/
theorem OutCounters.after_discard (d : Decision) : k.after { d with discards := d.discards + 1 } departure =
    { k with staleDropped := Counter.inc k.staleDropped }.after d departure := by
  have h : Counter.add (Counter.inc k.staleDropped) d.discards = Counter.add k.staleDropped (d.discards + 1) := by
    rw [Counter.inc, Counter.add_add, Nat.add_comm]
  simp only [OutCounters.after, h]

/-- The sum of the four sent counters. -/
def OutCounters.sent (k : OutCounters) : Nat :=
  k.managementSent.toNat + k.tableSent.toNat + k.mediaSent.toNat + k.fillerSent.toNat

theorem Counter.toNat_inc {c : Counter} (h : c.toNat < 4294967295) : (Counter.inc c).toNat = c.toNat + 1 := by
  rw [Counter.inc, Counter.toNat_add]
  omega

/-- Whatever a slot carries, one of the four counters goes up by one (R62). -/
theorem OutCounters.after_sent (d : Decision) (h1 : k.managementSent.toNat < 4294967295) (h2 : k.tableSent.toNat < 4294967295)
    (h3 : k.mediaSent.toNat < 4294967295) (h4 : k.fillerSent.toNat < 4294967295) : (k.after d departure).sent = k.sent + 1 := by
  obtain ⟨choice, q, n⟩ := d
  cases choice with
  | mgmt c =>
    simp only [OutCounters.after, OutCounters.sent, Counter.toNat_inc h1]
    omega
  | table c =>
    simp only [OutCounters.after, OutCounters.sent, Counter.toNat_inc h2]
    omega
  | media m =>
    simp only [OutCounters.after, OutCounters.sent, Counter.toNat_inc h3]
    omega
  | filler =>
    simp only [OutCounters.after, OutCounters.sent, Counter.toNat_inc h4]
    omega

end

/-! ### A stale head (R59, R73, R74) -/

/-- The state without its stale media head: counted, reported, and a queue-empty report made if it was the last. -/
def State.discardHead (s : State) (rest : List MediaCell) : State :=
  { s with
    queues := { s.queues with media := rest }
    sched := { s.sched with counters := { s.sched.counters with staleDropped := Counter.inc s.sched.counters.staleDropped } }
    reports := s.reports ++ [.event .staleDrops]
    classifier := { s.classifier with
      queueEmpties := if rest = [] then s.classifier.queueEmpties + 1 else s.classifier.queueEmpties } }

/-- A slot begun with one discard more is the slot begun behind the discarded head. -/
theorem State.begin_discard {s : State} {m : MediaCell} {rest : List MediaCell} (hq : s.queues.media = m :: rest) (d : Decision)
    (hd : rest = [] → d.queues.media = []) : s.begin { d with discards := d.discards + 1 } = (s.discardHead rest).begin d := by
  have hmedia : s.queues.media ≠ [] := hq ▸ List.cons_ne_nil m rest
  have reports : s.reports ++ List.replicate (d.discards + 1) (.event .staleDrops)
      = s.reports ++ [.event .staleDrops] ++ List.replicate d.discards (.event .staleDrops) := by
    rw [List.replicate_succ, List.append_assoc]
    rfl
  have empties : (if s.queues.media ≠ [] ∧ d.queues.media = [] then s.classifier.queueEmpties + 1 else s.classifier.queueEmpties)
      = if rest ≠ [] ∧ d.queues.media = [] then (if rest = [] then s.classifier.queueEmpties + 1 else s.classifier.queueEmpties) + 1
        else if rest = [] then s.classifier.queueEmpties + 1 else s.classifier.queueEmpties := by
    by_cases hrest : rest = []
    · simp [hrest, hd hrest, hmedia]
    · simp [hrest, hmedia]
  simp only [State.begin, State.discardHead, OutCounters.after_discard, reports, empties]
  rfl

end Sys2Proof.Machine

namespace Sys2Proof.Proofs

open Sys2Proof.Machine Sys2Proof.Safety

/-- Settles O27: the decision is computed for each order of R57, and the slot it begins is laid out. -/
theorem slotDecided : Obligations.SlotDecided := by
  unfold Obligations.SlotDecided
  refine fun s => ⟨exec_slotDecision_waits, fun hr hm => ?_⟩
  have begins {d : Decision} {t : State} (hd : s.decideNext = d) (ht : s.begin d = t) : exec .slotDecision s = .next t := by
    rw [exec_slotDecision_begins hr hm, hd, ht]
  have filler : s.begin ⟨.filler, s.queues, 0⟩ = slotBegun s s.queues (shareRaised s)
      { s.sched.counters with fillerSent := Counter.inc s.sched.counters.fillerSent } ⟨cellBytes fillerCell 0 0, none⟩ :=
    (State.begin_noMedia .filler rfl).trans (by rw [OutCounters.after_filler]; rfl)
  refine ⟨fun ho => begins (s.decideNext_first ho) filler, ?_, fun ho => ?_⟩
  · exact ⟨_, _, exec_slotDecision_begins hr hm, rfl, fun n => State.outLines_slot _ _ n hr rfl⟩
  · have later := s.decideNext_later ho
    refine ⟨fun c rest hc => ?_, fun c rest hmgmt hc ht => ?_, fun m rest hmgmt ht hc hstale => ?_, fun hmgmt htable hmedia => ?_⟩
    · refine begins (later.trans (decideSlot_mgmt hc)) ((State.begin_noMedia (q := { s.queues with mgmt := rest }) (.mgmt c) rfl).trans ?_)
      rw [OutCounters.after_mgmt]
      rfl
    · refine begins (later.trans (decideSlot_table hmgmt hc ht.2))
        ((State.begin_noMedia (q := { s.queues with table := rest }) (.table c) rfl).trans ?_)
      rw [OutCounters.after_table]
      rfl
    · have kept : m.discarded s.lt = false := Bool.eq_false_iff.mpr fun h => hstale ((MediaCell.discarded_iff s m).mp h)
      have decided : s.decideNext = ⟨.media m, { s.queues with media := rest }, 0⟩ := by
        rw [later, decideSlot_remade hmgmt fun h => ht ⟨h.1, .inr h.2.2⟩, hc, dropStaleHeads_keep rest kept]
        rfl
      refine begins decided ((State.begin_media hc).trans ?_)
      rw [OutCounters.after_media]
      rfl
    · have decided : s.decideNext = ⟨.filler, s.queues, 0⟩ := by
        rw [later, decideSlot_remade hmgmt fun h => h.1 htable, hmedia]
        exact remade_nil hmedia htable
      exact begins decided filler

/-- Settles O28: the decision is that without the head, and so is the slot begun. -/
theorem staleHeadDiscarded : Obligations.StaleHeadDiscarded := by
  unfold Obligations.StaleHeadDiscarded
  intro s m rest hr hm ho hmgmt ht hq hstale
  have hd := (MediaCell.discarded_iff s m).mpr hstale
  have decided : s.decideNext = { (s.discardHead rest).decideNext with discards := (s.discardHead rest).decideNext.discards + 1 } := by
    rw [s.decideNext_later ho, (s.discardHead rest).decideNext_later ho]
    exact decideSlot_discard hmgmt (fun h => ht ⟨h.1, .inr h.2⟩) hq hd
  show exec .slotDecision s = exec .slotDecision (s.discardHead rest)
  rw [exec_slotDecision_begins hr hm, exec_slotDecision_begins (s := s.discardHead rest) hr hm, decided,
    State.begin_discard hq _ fun h => (s.discardHead rest).decideNext_media_nil h]

/-- Settles O30: the decision's choice names the one counter that goes up. -/
theorem oneSentCounterPerSlot : Obligations.OneSentCounterPerSlot := by
  unfold Obligations.OneSentCounterPerSlot
  intro s hr hm sum k h1 h2 h3 h4
  exact ⟨_, exec_slotDecision_begins hr hm, s.sched.counters.after_sent s.lt s.decideNext h1 h2 h3 h4, rfl⟩

end Sys2Proof.Proofs
end

section
/-! PROOF. The table cell's placement and the COLD restart (O26, O34). -/

namespace Sys2Proof.Machine

section

variable {s : State} {e : Emission} {d : SlotData}

/-- With 24 table cells queued the engine waits (R50). -/
theorem exec_tableCellPlacement_waits (he : s.carousel.emission = some e) (hd : s.carousel.slots[e.slot] = some d)
    (hfull : Config.tableBuffers ≤ s.queues.table.length) : exec .tableCellPlacement s = .next s := by
  show execTableCellPlacement s = _
  simp only [execTableCellPlacement, he, hd, if_neg (Nat.not_lt.mpr hfull)]

/-- A cell before the last is placed, and the emission goes on (R111, R112). -/
theorem exec_tableCellPlacement_inner (he : s.carousel.emission = some e) (hd : s.carousel.slots[e.slot] = some d)
    (hroom : s.queues.table.length < Config.tableBuffers) (hmore : e.placed + 1 < cellCount e.message.length) :
    exec .tableCellPlacement s = .next { s with
      queues := { s.queues with table := s.queues.table ++ [e.cell d] }
      carousel := { s.carousel with
        slots := setAt s.carousel.slots e.slot (some { d with outSeq := d.outSeq + 1 })
        emission := some { e with placed := e.placed + 1 } } } := by
  show execTableCellPlacement s = _
  simp only [execTableCellPlacement, he, hd, if_pos hroom, if_pos hmore]
  rfl

/-- The state in which an emission's last cell is placed and the emission has ended (R113). -/
def State.endEmission (s : State) (e : Emission) (d : SlotData) : State :=
  { s with
    queues := { s.queues with table := s.queues.table ++ [e.cell d] }
    carousel := { s.carousel with
      slots := setAt s.carousel.slots e.slot (some { d with outSeq := d.outSeq + 1 }.endEmission)
      emission := none } }

theorem exec_tableCellPlacement_last (he : s.carousel.emission = some e) (hd : s.carousel.slots[e.slot] = some d)
    (hroom : s.queues.table.length < Config.tableBuffers) (hlast : cellCount e.message.length ≤ e.placed + 1) :
    exec .tableCellPlacement s = .next (s.endEmission e d).choose := by
  show execTableCellPlacement s = _
  simp only [execTableCellPlacement, he, hd, if_pos hroom, if_neg (Nat.not_lt.mpr hlast)]
  rfl

end

end Sys2Proof.Machine

namespace Sys2Proof.Proofs

open Sys2Proof.Machine Sys2Proof.Safety

/-- Settles O26: the full queue, an inner cell and the last one are the three branches of the placement. -/
theorem tableCellPlaced : Obligations.TableCellPlaced := by
  unfold Obligations.TableCellPlaced
  intro s e d he hd
  refine ⟨exec_tableCellPlacement_waits he hd, fun hroom => ?_⟩
  refine ⟨exec_tableCellPlacement_inner he hd hroom, exec_tableCellPlacement_last he hd hroom, fun hlast hdue => ?_⟩
  rw [exec_tableCellPlacement_last he hd hroom hlast]
  exact congrArg Host.Outcome.next ((s.endEmission e d).choose_idle rfl hdue)

/-- Settles O34: each restart is taken on its own mark alone. -/
theorem coldRestartTaken : Obligations.ColdRestartTaken := by
  unfold Obligations.ColdRestartTaken
  exact fun s => ⟨fun hcold => if_pos hcold, fun hcold => if_neg hcold, fun hwarm => if_neg hwarm⟩

end Sys2Proof.Proofs
end

section
/-! PROOF. MEDIA_ADMISSION and QUEUE_EMPTY_EVENT (O15). -/

namespace Sys2Proof.Machine

section

variable {s : State} {o : Offer} {rest : List Offer}

/-- A cell offered outside FORWARDING is dropped for pause (R48). -/
theorem exec_mediaAdmission_paused (ho : s.classifier.offered = o :: rest) (hp : s.classifier.admission ≠ .forwarding) :
    exec .mediaAdmission s = .next { s with
      classifier := { s.classifier with offered := rest }
      map := s.map.setBank o.bank ((s.map.bank o.bank).countAdmission o.entry
        (fun c => { c with dropPaused := Counter.inc c.dropPaused }) Bank.countDropped) } := by
  show execMediaAdmission s = _
  simp only [execMediaAdmission, ho, if_pos hp]
  rfl

/-- A cell offered to a full media queue is dropped for congestion (R48, R49). -/
theorem exec_mediaAdmission_congested (ho : s.classifier.offered = o :: rest) (hf : s.classifier.admission = .forwarding)
    (hfull : s.queues.media.length ≥ Config.mediaBuffers) :
    exec .mediaAdmission s = .next { s with
      classifier := { s.classifier with offered := rest }
      map := s.map.setBank o.bank ((s.map.bank o.bank).countAdmission o.entry
        (fun c => { c with dropCongestion := Counter.inc c.dropCongestion }) Bank.countDropped)
      reports := s.reports ++ [.event .mediaCongestion] } := by
  show execMediaAdmission s = _
  simp only [execMediaAdmission, ho, if_neg (not_not.mpr hf), if_pos hfull]
  rfl

/-- Any other offered cell goes to the tail of the media queue (R48). -/
theorem exec_mediaAdmission_admits (ho : s.classifier.offered = o :: rest) (hf : s.classifier.admission = .forwarding)
    (hroom : ¬ s.queues.media.length ≥ Config.mediaBuffers) :
    exec .mediaAdmission s = .next { s with
      classifier := { s.classifier with offered := rest }
      map := s.map.setBank o.bank ((s.map.bank o.bank).countAdmission o.entry
        (fun c => { c with queued := Counter.inc c.queued }) Bank.countForwarded)
      queues := { s.queues with media := s.queues.media ++ [o.media] } } := by
  show execMediaAdmission s = _
  simp only [execMediaAdmission, ho, if_neg (not_not.mpr hf), if_neg hroom]
  rfl

end

section

variable {s : State} {n : Nat}

/-- The report of the drained queue ends the pausing (R53). -/
theorem exec_queueEmptyEvent_drained (hn : s.classifier.queueEmpties = n + 1) (hp : s.classifier.admission = .pausing)
    (hm : s.queues.media = []) : exec .queueEmptyEvent s = .next { s with
      classifier := { s.classifier with queueEmpties := n, admission := .paused }
      agent := { s.agent with longOp := s.agent.longOp.finish .pause .done } } := by
  show execQueueEmptyEvent s = _
  simp only [execQueueEmptyEvent, hn, if_pos (And.intro hp hm)]
  rfl

/-- Outside PAUSING, or overtaken by an admission, the report is only taken (log 20). -/
theorem exec_queueEmptyEvent_overtaken (hn : s.classifier.queueEmpties = n + 1)
    (h : s.classifier.admission ≠ .pausing ∨ s.queues.media ≠ []) :
    exec .queueEmptyEvent s = .next { s with classifier := { s.classifier with queueEmpties := n } } := by
  have hnot : ¬ (s.classifier.admission = .pausing ∧ s.queues.media = []) := fun ⟨hp, hm⟩ => h.elim (· hp) (· hm)
  show execQueueEmptyEvent s = _
  simp only [execQueueEmptyEvent, hn, if_neg hnot]

end

end Sys2Proof.Machine

namespace Sys2Proof.Proofs

open Sys2Proof.Machine Sys2Proof.Safety

/-- Settles O15: the three branches of the admission, and the two of the queue-empty report. -/
theorem admissionAndDrain : Obligations.AdmissionAndDrain := by
  unfold Obligations.AdmissionAndDrain
  refine ⟨fun s o rest ho => ⟨fun hp => ?paused, fun hf hfull => ?congested, fun hf hroom => ?admitted⟩,
    fun s n hn => ⟨fun hp hm => ?drained, exec_queueEmptyEvent_overtaken hn⟩⟩
  case paused =>
    rw [exec_mediaAdmission_paused ho hp]
    cases o.entry <;> rfl
  case congested =>
    rw [exec_mediaAdmission_congested ho hf hfull]
    cases o.entry <;> rfl
  case admitted =>
    rw [exec_mediaAdmission_admits ho hf (Nat.not_le.mpr hroom)]
    cases o.entry <;> rfl
  case drained =>
    rw [exec_queueEmptyEvent_drained hn hp hm]
    cases s.agent.longOp with
    | none => rfl
    | ended k q o => rfl
    | inFlight k q => cases k <;> rfl

end Sys2Proof.Proofs
end

section
/-! PROOF. The 128 bytes a cell is sent as (O6). -/

namespace Sys2Proof.Machine

/-! ### The header's bytes by their numbers (R203) -/

/-- The flag bits' part of the third header byte. -/
def flagBits (h : Header) : Nat := (if h.u then 8 else 0) + (if h.k then 4 else 0) + (if h.f then 2 else 0)

/-- The second header byte: the tag's upper 8 bits. -/
theorem tagHigh_eq (t : Tag) : t.extractLsb' 4 8 = BitVec.ofNat 8 (t.toNat / 16) := by
  refine BitVec.eq_of_toNat_eq ?_
  simp only [BitVec.extractLsb'_toNat, Nat.shiftRight_eq_div_pow, BitVec.toNat_ofNat]

/-- The third header byte: the tag's lower 4 bits above the flags. -/
theorem tagLow_flags_eq (h : Header) :
    (h.tag.extractLsb' 0 4 ++ BitVec.ofBool h.u ++ BitVec.ofBool h.k ++ BitVec.ofBool h.f ++ 0#1 : Byte) =
      BitVec.ofNat 8 (h.tag.toNat % 16 * 16 + flagBits h) := by
  have bit (b : Bool) : (BitVec.ofBool b).toNat = if b then 1 else 0 := by cases b <;> rfl
  have append {m n : Nat} (x : BitVec m) (y : BitVec n) : (x ++ y).toNat = x.toNat * 2 ^ n + y.toNat := by
    rw [BitVec.toNat_append, ← Nat.shiftLeft_add_eq_or_of_lt y.isLt, Nat.shiftLeft_eq]
  refine BitVec.eq_of_toNat_eq ?_
  simp only [append, bit, flagBits, BitVec.extractLsb'_toNat, Nat.shiftRight_zero, BitVec.toNat_ofNat]
  split_ifs <;> omega

theorem seqByte_eq (q : Seq) : q.zeroExtend 8 = BitVec.ofNat 8 q.toNat :=
  (BitVec.ofNat_toNat 8 q).symm

/-- The header body, byte by byte (R203). -/
theorem headerBody_eq (h : Header) : headerBody h =
    [0xD2, BitVec.ofNat 8 (h.tag.toNat / 16), BitVec.ofNat 8 (h.tag.toNat % 16 * 16 + flagBits h),
      BitVec.ofNat 8 h.seq.toNat, h.len] := by
  simp only [headerBody, tagHigh_eq, tagLow_flags_eq, seqByte_eq]

/-- The filler cell's header check (R61). -/
theorem headerBytes_filler : headerBytes fillerCell.hdr = [0xD2, 0x00, 0x00, 0x00, 0x00, 0x99] := by decide +kernel

end Sys2Proof.Machine

namespace Sys2Proof.Proofs

open Sys2Proof.Machine Sys2Proof.Safety

/-- Settles O6: the header body by its numbers, and the manual's example values computed. -/
theorem cellOnTheLine : Obligations.CellOnTheLine := by
  unfold Obligations.CellOnTheLine
  refine ⟨fun c tag seq hp => ⟨?_, cellBytes_length tag seq hp⟩, ?_, ?_, ?_⟩
  · simp only [cellBytes, headerBytes, headerBody_eq]
    rfl
  · exact congrArg (· ++ fillerCell.payload) headerBytes_filler
  · decide +kernel
  · decide +kernel

end Sys2Proof.Proofs
end

section
/-! PROOF. PAUSE and RESUME (O47). -/

namespace Sys2Proof.Machine

variable {s : State} {c : Command}

/-! ### PAUSE (R52, R55, R149) -/

theorem pauseRequest_act_inFlight {k : OpKind} {q : Byte} (h : s.agent.longOp = .inFlight k q) :
    pauseRequest.act c () s = (refusedWith .busy [1, k.toByte, q], s) := by
  simp only [pauseRequest, h]
  rfl

theorem pauseRequest_act_ended {k : OpKind} {q : Byte} {o : OpOutcome} (h : s.agent.longOp = .ended k q o) :
    pauseRequest.act c () s = (refusedWith .busy [2, k.toByte, q], s) := by
  simp only [pauseRequest, h]
  rfl

theorem pauseRequest_act_none (h : s.agent.longOp = .none) : pauseRequest.act c () s = pauseNow c s := by
  simp only [pauseRequest, h]

/-- The state that drains the media queue under a PAUSE in flight. -/
def State.draining (s : State) (q : Byte) : State :=
  { s.setAdmission .pausing with agent := { s.agent with longOp := .inFlight .pause q } }

theorem pauseNow_empty (h : s.classifier.admission = .forwarding) (hm : s.queues.media = []) :
    pauseNow c s = (doneWith ([2] ++ beBytes 2 s.queues.media.length), s.setAdmission .paused) := by
  simp only [pauseNow, h, if_pos hm]
  rfl

theorem pauseNow_drains (h : s.classifier.admission = .forwarding) (hm : s.queues.media ≠ []) :
    pauseNow c s = (acceptedWith ([1] ++ beBytes 2 s.queues.media.length), s.draining c.seq) := by
  simp only [pauseNow, h, if_neg hm]
  rfl

theorem pauseNow_pausing (h : s.classifier.admission = .pausing) :
    pauseNow c s = (acceptedWith ([1] ++ beBytes 2 s.queues.media.length), s.draining c.seq) := by
  simp only [pauseNow, h]
  rfl

theorem pauseNow_paused (h : s.classifier.admission = .paused) :
    pauseNow c s = (doneWith ([2] ++ beBytes 2 s.queues.media.length), s) := by
  simp only [pauseNow, h]
  rfl

/-! ### RESUME (R52, R54) -/

theorem State.setAdmission_self (h : s.classifier.admission = .forwarding) : s.setAdmission .forwarding = s := by
  rw [State.setAdmission, ← h]

theorem resumeRequest_act_still (h : s.classifier.admission ≠ .pausing) :
    resumeRequest.act c () s = (doneWith [s.classifier.admission.toByte, 0], s.setAdmission .forwarding) := by
  simp only [resumeRequest, h, decide_false, Bool.false_and, if_false]
  rfl

theorem LongOp.finish_otherwise {l : LongOp} {k : OpKind} (o : OpOutcome) (h : ∀ q, l ≠ .inFlight k q) : l.finish k o = l := by
  cases l with
  | inFlight k' q => exact if_neg fun e : k' = k => h q (e ▸ rfl)
  | _ => rfl

theorem resumeRequest_act_aborts {q : Byte} (h : s.classifier.admission = .pausing) (hl : s.agent.longOp = .inFlight .pause q) :
    resumeRequest.act c () s = (doneWith [1, 1],
      { s.setAdmission .forwarding with agent := { s.agent with longOp := .ended .pause q .aborted } }) := by
  have hl' : (s.setAdmission .forwarding).agent.longOp = .inFlight .pause q := hl
  simp only [resumeRequest, h, hl, if_true, State.finishOp, hl', LongOp.finish_inFlight]
  rfl

theorem resumeRequest_act_leaves (h : s.classifier.admission = .pausing) (hl : ∀ q, s.agent.longOp ≠ .inFlight .pause q) :
    resumeRequest.act c () s = (doneWith [1, 0], s.setAdmission .forwarding) := by
  have hfinish : (s.setAdmission .forwarding).agent.longOp.finish .pause .aborted = s.agent.longOp := LongOp.finish_otherwise _ hl
  have hpausing : s.agent.longOp.pausing = false := by
    cases hop : s.agent.longOp with
    | none => rfl
    | ended k q o => rfl
    | inFlight k q =>
      cases k with
      | pause => exact absurd hop (hl q)
      | commit => rfl
  simp only [resumeRequest, h, hpausing, Bool.and_false, if_true, State.finishOp, hfinish]
  rfl

end Sys2Proof.Machine

namespace Sys2Proof.Proofs

open Sys2Proof.Machine Sys2Proof.Safety

/-- Settles O47: the long-operation record, then the admission state decide each command's answer. -/
theorem pauseAndResumeExecuted : Obligations.PauseAndResumeExecuted := by
  unfold Obligations.PauseAndResumeExecuted
  intro s c rest x admitted depth draining
  refine ⟨fun h => ?pause, fun h => ?resume⟩
  case pause =>
    have run {a : Answer} {u : State} (hact : pauseRequest.act c () (s.taken rest x) = (a, u.taken rest x))
        (hq : u.agent.replySeq = s.agent.replySeq) : exec .pause s = .next (executed s u c rest x a) :=
      congrArg Host.Outcome.next (State.sessionCommand_act pauseRequest h rfl rfl hact hq)
    have now (hl : s.agent.longOp = .none) := pauseRequest_act_none (s := s.taken rest x) (c := c) hl
    refine ⟨fun k q hl => ?_, fun k q o hl => ?_, fun hl => ⟨fun hf hm => ?_, fun hf hm => ?_, fun hp => ?_, fun hp => ?_⟩⟩
    · exact run (pauseRequest_act_inFlight (s := s.taken rest x) hl) rfl
    · exact run (pauseRequest_act_ended (s := s.taken rest x) hl) rfl
    · exact run (u := admitted .paused) ((now hl).trans (pauseNow_empty (s := s.taken rest x) hf hm)) rfl
    · exact run (u := draining) ((now hl).trans (pauseNow_drains (s := s.taken rest x) hf hm)) rfl
    · exact run (u := draining) ((now hl).trans (pauseNow_pausing (s := s.taken rest x) hp)) rfl
    · exact run ((now hl).trans (pauseNow_paused (s := s.taken rest x) hp)) rfl
  case resume =>
    have run {a : Answer} {u : State} (hact : resumeRequest.act c () (s.taken rest x) = (a, u.taken rest x))
        (hq : u.agent.replySeq = s.agent.replySeq) : exec .resume s = .next (executed s u c rest x a) :=
      congrArg Host.Outcome.next (State.sessionCommand_act resumeRequest h rfl rfl hact hq)
    have still (hp : s.classifier.admission ≠ .pausing) : exec .resume s =
        .next (executed s (admitted .forwarding) c rest x (doneWith [s.classifier.admission.toByte, 0])) :=
      run (resumeRequest_act_still (s := s.taken rest x) hp) rfl
    refine ⟨fun hf => ?_, fun hp => ?_, fun q hp hl => ?_, fun hp hl => ?_⟩
    · have unchanged : admitted .forwarding = s := State.setAdmission_self hf
      rw [still (by simp [hf]), unchanged, hf]
      rfl
    · rw [still (by simp [hp]), hp]
      rfl
    · exact run (resumeRequest_act_aborts (s := s.taken rest x) hp hl) rfl
    · exact run (u := admitted .forwarding) (resumeRequest_act_leaves (s := s.taken rest x) hp hl) rfl

end Sys2Proof.Proofs
end

section
/-! PROOF. CONFIG_SET and CONFIG_GET, item by item (O51). -/

namespace Sys2Proof.Machine

open Sys2Proof.Safety

/-- A number out of range is no argument. -/
theorem readRange_beBytes_none {n lo hi v : Nat} (rest : List Byte) (hv : v < 256 ^ n) (h : v < lo ∨ hi < v) :
    readRange n lo hi (beBytes n v ++ rest) = none := by
  have hout : ¬ (lo ≤ v ∧ v ≤ hi) := by omega
  simp [readRange, readWhere, readNat_beBytes, Nat.mod_eq_of_lt hv, hout]

theorem configSetArgs_item (i : SettingItem) (bs : List Byte) : configSetArgs (i.toByte :: bs) =
    (argument 2 (readRange 4 i.range.1 i.range.2) bs).map fun p => (i, p.1) := by
  rw [configSetArgs, argument_ok 1 readItem _ bs i (readItem_toByte i bs)]
  simp only [bind, Except.bind, pure, Except.pure, Except.map]

/-- A value within its item's range is taken (R171, R200). -/
theorem configSetArgs_ok {i : SettingItem} {v : Nat} (extra : List Byte) (hv : v < 2 ^ 32) (h1 : i.range.1 ≤ v) (h2 : v ≤ i.range.2) :
    configSetArgs (i.toByte :: (beBytes 4 v ++ extra)) = .ok (i, v) := by
  rw [configSetArgs_item, argument_ok 2 _ _ extra v (readRange_beBytes 4 _ _ v extra hv h1 h2)]
  rfl

/-- A value outside it fails the second argument. -/
theorem configSetArgs_outside {i : SettingItem} {v : Nat} (extra : List Byte) (hv : v < 2 ^ 32) (h : v < i.range.1 ∨ i.range.2 < v) :
    configSetArgs (i.toByte :: (beBytes 4 v ++ extra)) = .error 2 := by
  rw [configSetArgs_item, argument, readRange_beBytes_none extra hv h]
  rfl

section

variable {s : State} {c : Command} {rest : List Cell} {x : Session} (i : SettingItem) {v : Nat} {extra : List Byte}

/-- CONFIG_SET answers with the value before and stores the new one, or refuses a value out of range. -/
theorem exec_configSet (h : InSequence s 0x71 c rest x) (hv : v < 2 ^ 32) (ha : c.args = i.toByte :: (beBytes 4 v ++ extra)) :
    (i.range.1 ≤ v ∧ v ≤ i.range.2 → exec .configSet s =
        .next (executed s (s.configure i v) c rest x ⟨.done, .none, beBytes 4 (s.agent.settings.get i)⟩))
      ∧ (v < i.range.1 ∨ i.range.2 < v → exec .configSet s = .next (executed s s c rest x ⟨.refused, .badArgument, [2]⟩)) := by
  refine ⟨fun hr => ?_, fun hr => ?_⟩
  · have hp : configSetRequest.parse c.args = .ok (i, v) := ha ▸ configSetArgs_ok extra hv hr.1 hr.2
    have hact : configSetRequest.act c (i, v) (s.taken rest x) =
        (doneWith (beBytes 4 (s.agent.settings.get i)), (s.configure i v).taken rest x) := by
      cases i <;> rfl
    exact congrArg Host.Outcome.next (State.sessionCommand_act configSetRequest h hp rfl hact rfl)
  · have hp : configSetRequest.parse c.args = .error 2 := ha ▸ configSetArgs_outside extra hv hr
    exact congrArg Host.Outcome.next (State.sessionCommand_badArgument configSetRequest h 2 hp)

/-- CONFIG_GET answers with value, range and default (log 30). -/
theorem exec_configGet (h : InSequence s 0x72 c rest x) (ha : c.args = i.toByte :: extra) : exec .configGet s =
    .next (executed s s c rest x ⟨.done, .none, beBytes 4 (s.agent.settings.get i) ++ beBytes 4 i.range.1 ++ beBytes 4 i.range.2
      ++ beBytes 4 (Settings.reset.get i)⟩) := by
  have hp : configGetRequest.parse c.args = .ok i := ha ▸ oneArg_ok readItem _ extra i (readItem_toByte i extra)
  exact congrArg Host.Outcome.next (State.sessionCommand_act (u := s) configGetRequest h hp rfl rfl rfl)

end

end Sys2Proof.Machine

namespace Sys2Proof.Proofs

open Sys2Proof.Machine Sys2Proof.Safety

/-- Settles O51: each item's range, value and default are the model's own. -/
theorem configurationExecuted : Obligations.ConfigurationExecuted := by
  unfold Obligations.ConfigurationExecuted
  intro s c rest x v extra
  exact ⟨fun h => ⟨exec_configSet .staleLimit h, exec_configSet .tableShare h, exec_configSet .sessionTimeout h,
      exec_configSet .assemblyTimeout h⟩,
    fun h => ⟨exec_configGet .staleLimit h, exec_configGet .tableShare h, exec_configGet .sessionTimeout h,
      exec_configGet .assemblyTimeout h⟩⟩

end Sys2Proof.Proofs
end

section
/-! PROOF. COUNT_CLEAR, group by group (O50). -/

namespace Sys2Proof.Machine

open Sys2Proof.Safety

/-! ### Its arguments (R199) -/

theorem countClearArgs_group {g : CounterGroup} (extra : List Byte) (h : g ≠ .entry) :
    countClearArgs (g.toByte :: extra) = .ok (.group g) := by
  rw [countClearArgs, argument_ok 1 readGroup _ extra g (readGroup_toByte g extra)]
  exact if_neg h

theorem countClearArgs_entry (bank : BankId) {tag : Tag} (extra : List Byte) (h : tag ≠ 0) :
    countClearArgs (5 :: bank.toByte :: (tagBytes tag ++ extra)) = .ok (.entry bank tag) := by
  have hgroup := argument_ok 1 readGroup (5 :: bank.toByte :: (tagBytes tag ++ extra)) _ .entry (readGroup_toByte .entry _)
  have hbank := argument_ok 2 readBank _ _ bank (readBank_toByte bank (tagBytes tag ++ extra))
  have htag := argument_ok 3 readTag _ extra tag (readTag_tagBytes tag extra h)
  simp only [countClearArgs, bind, Except.bind, hgroup, if_true, hbank, htag, pure, Except.pure]

/-! ### What it clears (R170) -/

section

variable {s : State} {c : Command} {rest : List Cell} {x : Session} {extra : List Byte}

/-- A whole group is cleared at once. -/
theorem exec_countClear_group {g : CounterGroup} {u : State} (h : InSequence s 0x64 c rest x) (hg : g ≠ .entry)
    (hclear : clearGroup (s.taken rest x) g = u.taken rest x) (hq : u.agent.replySeq = s.agent.replySeq)
    (ha : c.args = g.toByte :: extra) : exec .countClear s = .next (executed s u c rest x ⟨.done, .none, []⟩) := by
  have hp : countClearRequest.parse c.args = .ok (.group g) := ha ▸ countClearArgs_group extra hg
  have hact : countClearRequest.act c (.group g) (s.taken rest x) = (doneWith [], u.taken rest x) :=
    congrArg (doneWith [], ·) hclear
  exact congrArg Host.Outcome.next (State.sessionCommand_act countClearRequest h hp rfl hact hq)

/-- An entry's counters are not cleared while an offer waits (R48; log 21). -/
theorem exec_countClear_waits {bank : BankId} {tag : Tag} (h : InSequence s 0x64 c rest x)
    (hp : countClearRequest.parse c.args = .ok (.entry bank tag)) (ho : s.classifier.offered ≠ []) :
    exec .countClear s = .next s := by
  have hr : countClearRequest.ready (.entry bank tag) (s.unqueued rest) = false :=
    Bool.eq_false_iff.mpr fun hdone => ho ((admissionsDone_iff _).mp hdone)
  exact congrArg Host.Outcome.next (State.sessionCommand_notReady countClearRequest h (.entry bank tag) hp hr)

/-- With no offer waiting the entry is looked up, and its counters cleared. -/
theorem exec_countClear_entry {bank : BankId} {tag : Tag} {a : Answer} {u : State} (h : InSequence s 0x64 c rest x)
    (hp : countClearRequest.parse c.args = .ok (.entry bank tag)) (ho : s.classifier.offered = [])
    (hact : countClearRequest.act c (.entry bank tag) (s.taken rest x) = (a, u.taken rest x))
    (hq : u.agent.replySeq = s.agent.replySeq) : exec .countClear s = .next (executed s u c rest x a) :=
  congrArg Host.Outcome.next
    (State.sessionCommand_act countClearRequest h hp ((admissionsDone_iff (s.unqueued rest)).mpr ho) hact hq)

end

theorem countClearRequest_act_missing {s : State} {c : Command} {bank : BankId} {tag : Tag}
    (hk : (s.map.bank bank).find tag = none) : countClearRequest.act c (.entry bank tag) s = (refusedWith .notFound [], s) := by
  simp only [countClearRequest, hk]

theorem countClearRequest_act_found {s : State} {c : Command} {bank : BankId} {tag : Tag}
    (hk : ((s.map.bank bank).find tag).isSome = true) : countClearRequest.act c (.entry bank tag) s = (doneWith [],
      withBank s bank ((s.map.bank bank).modify tag fun e => { e with counters := EntryCounters.zero })) := by
  obtain ⟨e, he⟩ := Option.isSome_iff_exists.mp hk
  simp only [countClearRequest, he, State.setBank_withBank]

end Sys2Proof.Machine

namespace Sys2Proof.Proofs

open Sys2Proof.Machine Sys2Proof.Safety

/-- Settles O50: seven groups are cleared whole, the entry group one entry at a time. -/
theorem countClearExecuted : Obligations.CountClearExecuted := by
  unfold Obligations.CountClearExecuted
  intro s c rest x extra h done
  refine ⟨exec_countClear_group (g := .input) h nofun rfl rfl, exec_countClear_group (g := .output) h nofun rfl rfl,
    exec_countClear_group (g := .bankA) h nofun rfl rfl, exec_countClear_group (g := .bankB) h nofun rfl rfl,
    fun bank tag htag ha => ?entry, fun ha => ?contexts, fun ha => ?slots, fun ha => ?agent⟩
  case entry =>
    have hp : countClearRequest.parse c.args = .ok (.entry bank tag) := ha ▸ countClearArgs_entry bank extra htag
    refine ⟨exec_countClear_waits h hp, fun ho hk => ?_, fun ho hk => ?_⟩
    · exact exec_countClear_entry (u := s) h hp ho (countClearRequest_act_missing (s := s.taken rest x) hk) rfl
    · refine exec_countClear_entry h hp ho ((countClearRequest_act_found (s := s.taken rest x) hk).trans ?_) ?_
      · cases bank <;> rfl
      · cases bank <;> rfl
  case contexts =>
    exact ⟨mapAll Context.clearCounters s.capture.contexts, exec_countClear_group (g := .contexts) h nofun rfl rfl ha,
      fun i => mapAll_get Context.clearCounters s.capture.contexts i⟩
  case slots =>
    exact ⟨mapAll (Option.map SlotData.clearCounters) s.carousel.slots, exec_countClear_group (g := .slots) h nofun rfl rfl ha,
      fun i => mapAll_get (Option.map SlotData.clearCounters) s.carousel.slots i⟩
  case agent =>
    exact ⟨_, exec_countClear_group (g := .agent) (u := { s with agent := { s.agent with counters := ⟨0, 0, 0, 0⟩ } }) h nofun
      rfl rfl ha, rfl, rfl⟩

end Sys2Proof.Proofs
end

section
/-! PROOF. HEADER_EXAMINATION in every delineation state (O9). -/

namespace Sys2Proof.Machine

open Sys2Proof.Safety

/-! ### The header (R120, R203) -/

/-- The two upper bits of the fourth header byte are zero exactly when each of them is. -/
theorem upperBits_zero_iff (b : Byte) : b.extractLsb' 6 2 = 0#2 ↔ b.getLsbD 7 = false ∧ b.getLsbD 6 = false := by
  revert b
  decide

/-- Six counted bytes carry a header exactly when they form a valid one. -/
theorem HeaderSample.header_isSome_iff (h : HeaderSample) : (HeaderSample.header h).isSome = true ↔ ValidHeader h := by
  simp only [HeaderSample.header, readHeader, Option.isSome_ite, upperBits_zero_iff, ValidHeader, Config.payloadBytes, and_assoc]

theorem HeaderSample.header_invalid {h : HeaderSample} (hv : ¬ ValidHeader h) : HeaderSample.header h = none :=
  Option.not_isSome_iff_eq_none.mp fun hs => hv ((HeaderSample.header_isSome_iff h).mp hs)

theorem HeaderSample.header_valid {h : HeaderSample} (hv : ValidHeader h) : ∃ hd, HeaderSample.header h = some hd :=
  Option.isSome_iff_exists.mp ((HeaderSample.header_isSome_iff h).mpr hv)

/-! ### The arrival LT (R69, R119) -/

/-- Where the position's first byte may have been counted at an LT, the age kept for it is the greatest that the position before allows. -/
theorem countedAt_keepLt {s : State} {arrival : Lt} (hc : s.line.counts s.lt arrival = true) :
    CountedAt s arrival (s.line.keepLt s.lt arrival).examinedAgo := by
  have since : ticksSince s.lt arrival ≤ s.line.examinedAgo := of_decide_eq_true hc
  have ago : (s.line.keepLt s.lt arrival).examinedAgo
      = ticksSince s.lt arrival + (s.line.examinedAgo - ticksSince s.lt arrival) / 2 ^ 48 * 2 ^ 48 := rfl
  exact ⟨(s.line.keepLt_lt s.lt arrival).symm, by omega, by omega⟩

/-- The model's test of an arrival LT is that some tick since the position last examined had it. -/
theorem counts_iff_countedAt (s : State) (arrival : Lt) : s.line.counts s.lt arrival = true ↔ ∃ ago, CountedAt s arrival ago := by
  refine ⟨fun hc => ⟨_, countedAt_keepLt hc⟩, fun ⟨ago, hlt, hsince, _⟩ => ?_⟩
  rw [hlt]
  exact s.line.counts_ago arrival ago hsince

/-- The line keeps that LT with the ticks since. -/
theorem LineReceiver.keepLt_countedAt {s : State} {arrival : Lt} {ago : Nat} (h : CountedAt s arrival ago) :
    s.line.keepLt s.lt arrival = { s.line with examinedLt := arrival, examinedAgo := ago } := by
  rw [h.lt]
  exact s.line.keepLt_ago arrival ago h.since h.greatest

/-! ### The delineation state (R121 to R126) -/

section

variable {l : LineReceiver} {h : HeaderSample} {hd : Header}

theorem LineReceiver.examine_hunt_invalid (hdelin : l.delin = .hunt) (hh : HeaderSample.header h = none) :
    l.examine h = ({ l with nextPos := l.nextPos + 1 }, [], false) := by
  simp only [LineReceiver.examine, hdelin, hh]

theorem LineReceiver.examine_hunt_valid (hdelin : l.delin = .hunt) (hh : HeaderSample.header h = some hd) :
    l.examine h = ({ l with delin := .confirm 1, nextPos := l.nextPos + 128 }, [], false) := by
  simp only [LineReceiver.examine, hdelin, hh]

theorem LineReceiver.examine_confirm_invalid {c : Nat} (hdelin : l.delin = .confirm c) (hh : HeaderSample.header h = none) :
    l.examine h = ({ l with delin := .hunt, nextPos := l.nextPos + 1 }, [], false) := by
  simp only [LineReceiver.examine, hdelin, hh]

/-- Below the count of 2 a valid header raises it. -/
theorem LineReceiver.examine_confirm_again {c : Nat} (hdelin : l.delin = .confirm c) (hh : HeaderSample.header h = some hd) (hc : c < 2) :
    l.examine h = ({ l with delin := .confirm (c + 1), nextPos := l.nextPos + 128 }, [], false) := by
  simp only [LineReceiver.examine, hdelin, hh, if_pos hc]

/-- At the count of 2 a valid header locks the line and starts its cell's reception. -/
theorem LineReceiver.examine_confirm_locks {c : Nat} (hdelin : l.delin = .confirm c) (hh : HeaderSample.header h = some hd)
    (hc : ¬ c < 2) : l.examine h = ({ l with
      delin := .locked 0, nextPos := l.nextPos + 128, receiving := some ⟨hd, HeaderSample.anyIerr h, l.examinedLt⟩ },
      [.causeGone], false) := by
  simp only [LineReceiver.examine, hdelin, hh, if_neg hc]

theorem LineReceiver.examine_locked_valid {m : Nat} (hdelin : l.delin = .locked m) (hh : HeaderSample.header h = some hd) :
    l.examine h = ({ l with
      delin := .locked 0, nextPos := l.nextPos + 128, receiving := some ⟨hd, HeaderSample.anyIerr h, l.examinedLt⟩ }, [], false) := by
  simp only [LineReceiver.examine, hdelin, hh]

/-- A miss below the fifth is counted. -/
theorem LineReceiver.examine_locked_miss {m : Nat} (hdelin : l.delin = .locked m) (hh : HeaderSample.header h = none) (hm : m < 4) :
    l.examine h = ({ l with
      delin := .locked (m + 1), nextPos := l.nextPos + 128
      counters := { l.counters with headerErrors := Counter.inc l.counters.headerErrors } }, [.event .headerErrors], false) := by
  have below : m + 1 < Config.missLimit := Nat.succ_lt_succ hm
  simp only [LineReceiver.examine, hdelin, hh, if_pos below]

/-- The fifth loses the line. -/
theorem LineReceiver.examine_locked_loss {m : Nat} (hdelin : l.delin = .locked m) (hh : HeaderSample.header h = none) (hm : ¬ m < 4) :
    l.examine h = ({ l with
      delin := .hunt, nextPos := l.nextPos + 1
      counters := { l.counters with
        headerErrors := Counter.inc l.counters.headerErrors
        syncLosses := Counter.inc l.counters.syncLosses } }, [.event .headerErrors, .event .lineUnlocked], true) := by
  have atLimit : ¬ m + 1 < Config.missLimit := fun hlt => hm (Nat.lt_of_succ_lt_succ hlt)
  simp only [LineReceiver.examine, hdelin, hh, if_neg atLimit]

end

/-! ### The examination -/

/-- The state after an examination: the line, the reports behind those that wait, a sync loss behind the cells delivered (R127). -/
def State.examined (s : State) (r : LineReceiver × List Report × Bool) : State :=
  { s with
    line := r.1
    reports := s.reports ++ r.2.1
    classifier := { s.classifier with input := if r.2.2 then s.classifier.input ++ [.syncLoss false] else s.classifier.input } }

/-- With nothing reported only the line changes. -/
theorem State.examined_quiet (s : State) (l : LineReceiver) : s.examined (l, [], false) = { s with line := l } :=
  congrArg (fun reports => { s with line := l, reports := reports }) (List.append_nil s.reports)

section

variable {s : State} (h : HeaderSample) {arrival : Lt}

/-- Nothing is examined in reset, in reception or with an LT that the position's first byte cannot have (R69, R130; log 6, log 7). -/
theorem exec_headerExamination_ignored
    (hs : s.resetLow = true ∨ s.line.receiving.isSome = true ∨ ¬ ∃ ago, CountedAt s arrival ago) :
    exec (.headerExamination h arrival) s = .next s := by
  refine if_pos ?_
  rw [← counts_iff_countedAt] at hs
  simpa only [Bool.or_eq_true, Bool.not_eq_true', Bool.not_eq_true, or_assoc] using hs

/-- Otherwise the line that keeps the arrival LT is examined. -/
theorem exec_headerExamination_examines {ago : Nat} {r : LineReceiver × List Report × Bool} (hr : s.resetLow = false)
    (hn : s.line.receiving = none) (hc : CountedAt s arrival ago)
    (hl : LineReceiver.examine { s.line with examinedLt := arrival, examinedAgo := ago } h = r) :
    exec (.headerExamination h arrival) s = .next (s.examined r) := by
  have counted : s.line.counts s.lt arrival = true := (counts_iff_countedAt s arrival).mpr ⟨ago, hc⟩
  have taken : (s.resetLow || s.line.receiving.isSome || !s.line.counts s.lt arrival) ≠ true := by
    rw [hr, hn, counted]
    decide
  rw [← hl, ← LineReceiver.keepLt_countedAt hc]
  exact if_neg taken

end

end Sys2Proof.Machine

namespace Sys2Proof.Proofs

open Sys2Proof.Machine Sys2Proof.Safety

/-- Settles O9: the examination is the line's own, and that goes by the delineation state and the header. -/
theorem headerExamined : Obligations.HeaderExamined := by
  unfold Obligations.HeaderExamined
  refine fun s h a => ⟨exec_headerExamination_ignored h, fun ago hr hn hc => ?_⟩
  have examines {r : LineReceiver × List Report × Bool} := exec_headerExamination_examines (r := r) h hr hn hc
  have quiet {l : LineReceiver} (hl : LineReceiver.examine { s.line with examinedLt := a, examinedAgo := ago } h = (l, [], false)) :
      exec (.headerExamination h a) s = .next { s with line := l } :=
    (examines hl).trans (congrArg Host.Outcome.next (s.examined_quiet l))
  refine ⟨fun hd hv => ?huntInvalid, fun hd hv => ?huntValid, fun c hd hv => ?confirmInvalid, fun hd hv => ?confirmOne,
    fun hdr hd hh => ?confirmTwo, fun m hdr hd hh => ?lockedValid, fun m hd hm hv => ?miss, fun hd hv => ?loss⟩
  case huntInvalid => exact quiet (LineReceiver.examine_hunt_invalid hd (HeaderSample.header_invalid hv))
  case huntValid =>
    obtain ⟨hdr, hh⟩ := HeaderSample.header_valid hv
    exact quiet (LineReceiver.examine_hunt_valid hd hh)
  case confirmInvalid => exact quiet (LineReceiver.examine_confirm_invalid hd (HeaderSample.header_invalid hv))
  case confirmOne =>
    obtain ⟨hdr, hh⟩ := HeaderSample.header_valid hv
    exact quiet (LineReceiver.examine_confirm_again hd hh (by decide))
  case confirmTwo => exact examines (LineReceiver.examine_confirm_locks hd hh (by decide))
  case lockedValid => exact quiet (LineReceiver.examine_locked_valid hd hh)
  case miss => exact examines (LineReceiver.examine_locked_miss hd (HeaderSample.header_invalid hv) hm)
  case loss => exact examines (LineReceiver.examine_locked_loss hd (HeaderSample.header_invalid hv) (by decide))

end Sys2Proof.Proofs
end

section
/-! PROOF. The clock stamp of a media cell that is sent (O29). -/

namespace Sys2Proof.Machine

/-- A cell is restamped when restamp is on, K is set and its payload holds a stamp (R75, R76). -/
theorem MediaCell.restamps_iff (m : MediaCell) : (m.wantsStamp && !m.shortStamp) = true
    ↔ m.restamp = true ∧ m.cell.hdr.k = true ∧ 6 ≤ m.cell.hdr.len.toNat := by
  simp only [MediaCell.shortStamp, MediaCell.wantsStamp, Bool.and_eq_true, Bool.not_eq_true', Bool.and_eq_false_imp,
    decide_eq_false_iff_not, not_lt]
  exact ⟨fun ⟨⟨hr, hk⟩, long⟩ => ⟨hr, hk, long ⟨hr, hk⟩⟩, fun ⟨hr, hk, hl⟩ => ⟨⟨hr, hk⟩, fun _ => hl⟩⟩

/-- The corrected stamp as a number: the stamp's value plus the residence, in 48 bits (R71, R75). -/
theorem readStamp_add_toNat (payload : List Byte) (residence : Lt) :
    (readStamp payload + residence).toNat = (beVal (payload.take 6) + residence.toNat) % 2 ^ 48 := by
  rw [readStamp, BitVec.toNat_add, BitVec.toNat_ofNat, Nat.mod_add_mod]

end Sys2Proof.Machine

namespace Sys2Proof.Proofs

open Sys2Proof.Machine

/-- Settles O29: the branch taken by the cell sent is the condition of R76, and the sum in 48 bits is R75's. -/
theorem stampCorrected : Obligations.StampCorrected := by
  unfold Obligations.StampCorrected
  refine fun m departure => ⟨fun hs => ?_, fun hs => if_neg fun h => hs (m.restamps_iff.mp h)⟩
  rw [MediaCell.sent, if_pos (m.restamps_iff.mpr hs), restampPayload, ltBytes, readStamp_add_toNat, MediaCell.residence]

end Sys2Proof.Proofs
end

section
/-! PROOF. Every step keeps the bounds of the capture contexts and the capture store (O56). -/

namespace Sys2Proof.Machine

open Sys2Proof.Safety

/-! ### The bounds, part by part (R83, R90, R91) -/

/-- A partial message lacks bytes of its total, which is at most 2048 (R83). -/
structure Partial.Sound (p : Partial) : Prop where
  short : p.held.length < 8 + p.bodyLen
  body : p.bodyLen ≤ 2040

/-- What a context assembles is a sound partial message. -/
def ContextState.Sound (x : ContextState) : Prop := ∀ p, x = .assembling p → p.Sound

theorem contextState_sound_armed : ContextState.armed.Sound := nofun

theorem contextState_sound_idle : ContextState.idle.Sound := nofun

theorem contextState_sound_assembling {p : Partial} (h : p.Sound) : (ContextState.assembling p).Sound := fun _ hp => by
  cases hp
  exact h

/-- The filing list names each FILLED record once and no other, and the stored bodies fit (R90, R91). -/
structure StoreSound (store : Vector (Option Record) 4) (filing : List (Fin 4)) : Prop where
  once : filing.Nodup
  filled : ∀ r : Fin 4, r ∈ filing ↔ store[r].isSome = true
  bodies : ∀ (r : Fin 4) x, store[r] = some x → x.body.length ≤ 2040

theorem captureSound_iff (s : State) : CaptureSound s ↔
    (∀ i : Fin 8, s.capture.contexts[i].state.Sound) ∧ StoreSound s.capture.store s.capture.filing :=
  ⟨fun ⟨hc, ho, hf, hb⟩ => ⟨fun i p hp => ⟨(hc i p hp).1, (hc i p hp).2⟩, ho, hf, hb⟩,
    fun ⟨hc, ho, hf, hb⟩ => ⟨fun i p hp => ⟨(hc i p hp).short, (hc i p hp).body⟩, ho, hf, hb⟩⟩

/-- The contexts are in the states, and the records hold the bodies, that they were in and held; bindings, filters, counters, owed flags and
what waits for the Capture Engine may differ. -/
structure SameBounds (s t : State) : Prop where
  states : ∀ i : Fin 8, t.capture.contexts[i].state = s.capture.contexts[i].state
  filing : t.capture.filing = s.capture.filing
  bodies : ∀ r : Fin 4, t.capture.store[r].map Record.body = s.capture.store[r].map Record.body

theorem SameBounds.sound {s t : State} (h : SameBounds s t) (hs : CaptureSound s) : CaptureSound t := by
  obtain ⟨hc, hst⟩ := (captureSound_iff s).mp hs
  refine (captureSound_iff t).mpr ⟨fun i => h.states i ▸ hc i, h.filing ▸ hst.once, fun r => ?_, fun r x hx => ?_⟩
  · rw [h.filing, hst.filled r, ← Option.isSome_map (f := Record.body), ← h.bodies r, Option.isSome_map]
  · have hb := h.bodies r
    rw [hx] at hb
    obtain ⟨y, hy, he⟩ := Option.map_eq_some_iff.mp hb.symm
    exact he ▸ hst.bodies r y hy

theorem SameBounds.of_eq {s t : State} (hc : t.capture.contexts = s.capture.contexts) (hf : t.capture.filing = s.capture.filing)
    (hs : t.capture.store = s.capture.store) : SameBounds s t :=
  ⟨fun i => by rw [hc], hf, fun r => by rw [hs]⟩

theorem SameBounds.refl (s : State) : SameBounds s s := .of_eq rfl rfl rfl

theorem SameBounds.trans {s t u : State} (h : SameBounds s t) (h' : SameBounds t u) : SameBounds s u :=
  ⟨fun i => (h'.states i).trans (h.states i), h'.filing.trans h.filing, fun r => (h'.bodies r).trans (h.bodies r)⟩

theorem SameBounds.of_carousel {s t : State} (h : ∃ c rs, t = { s with carousel := c, reports := rs }) : SameBounds s t := by
  obtain ⟨c, rs, rfl⟩ := h
  exact .of_eq rfl rfl rfl

/-- An owed flag set or cleared is no change of a body (R92, R154). -/
theorem SameBounds.setOwed {s t : State} (b : Bool) (hc : t.capture.contexts = s.capture.contexts)
    (hf : t.capture.filing = s.capture.filing) (hs : t.capture.store = mapAll (Machine.setOwed b) s.capture.store) : SameBounds s t := by
  refine ⟨fun i => by rw [hc], hf, fun r => ?_⟩
  rw [hs, mapAll_get]
  cases s.capture.store[r] <;> rfl

/-! ### The Capture Engine's operations (R82 to R92) -/

theorem contexts_sound_setAt {cs : Vector Context 8} (h : ∀ j : Fin 8, cs[j].state.Sound) (i : Fin 8) {c : Context}
    (hc : c.state.Sound) (j : Fin 8) : (setAt cs i c)[j].state.Sound := by
  by_cases hj : j = i
  · subst hj
    rwa [setAt_same]
  · rw [setAt_other _ _ _ _ hj]
    exact h j

/-- One context is set to a sound state. -/
theorem captureSound_setContext {s t : State} (h : CaptureSound s) {i : Fin 8} {c : Context}
    (ht : t.capture = { s.capture with contexts := setAt s.capture.contexts i c }) (hc : c.state.Sound) : CaptureSound t := by
  obtain ⟨hcs, hst⟩ := (captureSound_iff s).mp h
  rw [captureSound_iff, ht]
  exact ⟨contexts_sound_setAt hcs i hc, hst⟩

theorem captureSound_abandon {s : State} (h : CaptureSound s) (i : Fin 8) (why : LossReason) : CaptureSound (s.abandon i why) :=
  captureSound_setContext h rfl contextState_sound_armed

/-- A FREE record that is FILLED joins the filing list (R90). -/
theorem StoreSound.file {store : Vector (Option Record) 4} {filing : List (Fin 4)} (h : StoreSound store filing) {r : Fin 4} {x : Record}
    (free : store[r] = none) (hx : x.body.length ≤ 2040) : StoreSound (setAt store r (some x)) (filing ++ [r]) where
  once := by
    have hr : r ∉ filing := fun hr => by simpa [free] using (h.filled r).mp hr
    exact List.nodup_append.mpr ⟨h.once, List.nodup_singleton r, fun a ha b hb => by
      rw [List.mem_singleton.mp hb]
      exact fun e => hr (e ▸ ha)⟩
  filled q := by
    by_cases hq : q = r
    · subst hq
      rw [setAt_same]
      exact iff_of_true (by simp) rfl
    · simp [setAt_other _ _ _ _ hq, hq, h.filled q]
  bodies q y hy := by
    by_cases hq : q = r
    · subst hq
      rw [setAt_same] at hy
      cases hy
      exact hx
    · rw [setAt_other _ _ _ _ hq] at hy
      exact h.bodies q y hy

/-- A record released leaves the filing list (R94). -/
theorem StoreSound.release {store : Vector (Option Record) 4} {filing : List (Fin 4)} (h : StoreSound store filing) (r : Fin 4) :
    StoreSound (setAt store r none) (filing.filter fun q => q != r) where
  once := h.once.filter _
  filled q := by
    by_cases hq : q = r
    · subst hq
      rw [setAt_same]
      simp
    · simp [setAt_other _ _ _ _ hq, hq, h.filled q]
  bodies q y hy := by
    by_cases hq : q = r
    · subst hq
      rw [setAt_same] at hy
      cases hy
    · rw [setAt_other _ _ _ _ hq] at hy
      exact h.bodies q y hy

theorem captureSound_fileMessage {s : State} (h : CaptureSound s) (i : Fin 8) {p : Partial} (hp : p.bodyLen ≤ 2040) :
    CaptureSound (s.fileMessage i p) := by
  obtain ⟨hcs, hst⟩ := (captureSound_iff s).mp h
  unfold State.fileMessage
  split
  · next r hr =>
    have hbody : (p.record i s.lt s.agent.session.isSome).body.length ≤ 2040 := (List.length_take_le _ _).trans hp
    exact (captureSound_iff _).mpr
      ⟨contexts_sound_setAt hcs i contextState_sound_armed, hst.file (Capture.freeRecord_free hr) hbody⟩
  · exact captureSound_setContext h rfl contextState_sound_armed

theorem captureSound_completeMessage {s : State} (h : CaptureSound s) (i : Fin 8) {p : Partial} (hp : p.bodyLen ≤ 2040) :
    CaptureSound (s.completeMessage i p) := by
  simp only [State.completeMessage]
  split_ifs
  · exact captureSound_abandon h i _
  · exact captureSound_setContext h rfl contextState_sound_armed
  · exact captureSound_setContext h rfl contextState_sound_armed
  · exact captureSound_fileMessage h i hp

/-- The bytes of a cell that leaves bytes still to come keep the partial message short of its total (R83). -/
theorem captureSound_accountCell {s : State} (h : CaptureSound s) (i : Fin 8) {p : Partial} (hp : p.Sound) (c : Cell) :
    CaptureSound (s.accountCell i p c) := by
  simp only [State.accountCell]
  split_ifs with hdone hlong
  · exact captureSound_completeMessage h i hp.body
  · exact captureSound_abandon h i _
  · refine captureSound_setContext h rfl (contextState_sound_assembling ⟨?_, hp.body⟩)
    have htake := List.length_take_le c.hdr.len.toNat c.payload
    have hshort := hp.short
    simp only [List.length_append]
    omega
  · exact captureSound_abandon h i _

theorem captureSound_takeStart {s : State} (h : CaptureSound s) (d : Handoff) : CaptureSound (s.takeStart d) := by
  simp only [State.takeStart]
  split_ifs with _ _ _ hlen
  · exact captureSound_abandon h _ _
  · exact captureSound_abandon h _ _
  · exact captureSound_abandon h _ _
  · refine captureSound_accountCell h _ ⟨by simp, ?_⟩ _
    exact not_lt.mp hlen
  · exact h

theorem captureSound_takeHandoff {s : State} (h : CaptureSound s) (d : Handoff) : CaptureSound (s.takeHandoff d) := by
  unfold State.takeHandoff
  split
  · exact h
  · exact captureSound_takeStart h d
  · next p hp =>
    split
    · exact captureSound_takeStart (captureSound_abandon h _ _) d
    · exact captureSound_accountCell h _ (((captureSound_iff s).mp h).1 _ p hp) _

/-- A context that takes its binding is in the state it was in, or abandoned (R88). -/
theorem captureSound_bindContext {s : State} (h : CaptureSound s) (i : Fin 8) (b : Option Tag) : CaptureSound (s.bindContext i b) := by
  have bound {u : State} (hu : CaptureSound u) : CaptureSound (u.setContext i { u.capture.contexts[i] with binding := b }) :=
    captureSound_setContext hu rfl (((captureSound_iff u).mp hu).1 i)
  unfold State.bindContext
  split
  · split_ifs
    · exact bound h
    · exact bound (captureSound_abandon h i _)
  · exact bound h
  · exact bound h

/-- What is done for one context after another keeps the bounds if each does. -/
theorem captureSound_foldl {f : State → Fin 8 → State} (hf : ∀ s i, CaptureSound s → CaptureSound (f s i)) (is : List (Fin 8))
    {s : State} (h : CaptureSound s) : CaptureSound (is.foldl f s) := by
  induction is generalizing s with
  | nil => exact h
  | cons i is ih => exact ih (hf s i h)

theorem captureSound_abandonAll {s : State} (h : CaptureSound s) : CaptureSound s.abandonAll :=
  captureSound_foldl (fun s i h => by
    split
    · exact captureSound_abandon h i _
    · exact h
    · exact h) _ h

theorem captureSound_arm {s : State} (h : CaptureSound s) (i : Fin 8) (f : Filter) : CaptureSound (s.arm i f) := by
  unfold State.arm
  split
  · exact captureSound_setContext (captureSound_abandon h i .rearmed) rfl contextState_sound_armed
  · exact captureSound_setContext h rfl contextState_sound_armed
  · exact captureSound_setContext h rfl contextState_sound_armed

/-! ### Around every command (R138, R142 to R144, R154) -/

theorem SameBounds.endSession (s : State) : SameBounds s s.endSession := .setOwed false rfl rfl rfl

theorem agentKeeps_captureSound : AgentKeeps CaptureSound where
  unqueued s rest h := (SameBounds.of_eq (t := s.unqueued rest) rfl rfl rfl).sound h
  endSession s h := (SameBounds.endSession s).sound h
  replyOutside s c a h := (SameBounds.of_eq (t := s.replyOutside c a) rfl rfl rfl).sound h
  answerRepeat s x _ h := (SameBounds.of_eq (t := s.answerRepeat x) rfl rfl rfl).sound h
  advanceExpected s h := (SameBounds.of_eq (t := s.advanceExpected) rfl rfl rfl).sound h
  settle s c a tag mark h := (SameBounds.of_eq (t := s.settle c a tag mark) rfl rfl rfl).sound h

/-- A request that leaves contexts' states, filing list and bodies. -/
theorem RequestKeeps.of_sameBounds {α : Type} {r : Request α} (act : ∀ c y s, SameBounds s (r.act c y s).2)
    (after : ∀ s, SameBounds s (r.after s)) : RequestKeeps CaptureSound r :=
  ⟨fun c y s h _ _ => (act c y s).sound h, fun s h => (after s).sound h⟩

/-! ### The capture commands (R80, R81, R94) -/

theorem ctxArmRequest_keepsCapture : RequestKeeps CaptureSound ctxArmRequest where
  act _ y _ h _ _ := captureSound_arm h y.1 _
  after _ h := h

theorem ctxDisarmRequest_keepsCapture : RequestKeeps CaptureSound ctxDisarmRequest where
  act _ _ _ h _ _ := captureSound_setContext h rfl contextState_sound_idle
  after _ h := h

theorem storeReleaseRequest_keepsCapture : RequestKeeps CaptureSound storeReleaseRequest where
  act _ i s h _ _ := by
    simp only [storeReleaseRequest]
    split
    · exact h
    · obtain ⟨hcs, hst⟩ := (captureSound_iff s).mp h
      exact (captureSound_iff _).mpr ⟨hcs, hst.release i⟩
  after _ h := h

/-! ### The commands of the other blocks -/

theorem closeRequest_keepsCapture : RequestKeeps CaptureSound closeRequest := .of_sameBounds (fun _ _ s => .refl s) .endSession

theorem SameBounds.editShadow (f : Bank → Answer × Bank) (s : State) : SameBounds s (Machine.editShadow f s).2 := by
  unfold Machine.editShadow
  split
  · exact .refl s
  · exact .of_eq rfl rfl rfl

theorem editRequest_keepsCapture {α : Type} {r : Request α} (edit : α → State → Bank → Answer × Bank)
    (act : ∀ c y s, r.act c y s = editShadow (edit y s) s) (after : r.after = id) : RequestKeeps CaptureSound r :=
  .of_sameBounds (fun c y s => by rw [act]; exact .editShadow _ s) fun s => by rw [after]; exact .refl s

theorem mapReadRequest_keepsCapture : RequestKeeps CaptureSound mapReadRequest :=
  .of_sameBounds (fun c x s => by
    simp only [mapReadRequest]
    split
    · exact .refl s
    · exact .refl s) .refl

/-- A commit hands bindings to the Capture Engine, which has not taken them yet (R22). -/
theorem commitRequest_keepsCapture : RequestKeeps CaptureSound commitRequest :=
  .of_sameBounds (fun c due s => by
    simp only [commitRequest]
    split
    · unfold commitNow
      split
      · exact .refl s
      · split
        · exact .of_eq rfl rfl rfl
        · exact .of_eq rfl rfl rfl
    · exact .refl s) .refl

theorem commitCancelRequest_keepsCapture : RequestKeeps CaptureSound commitCancelRequest :=
  .of_sameBounds (fun c _ s => by
    simp only [commitCancelRequest]
    split
    · exact .of_eq rfl rfl rfl
    · exact .refl s) .refl

theorem slotDefineRequest_keepsCapture : RequestKeeps CaptureSound slotDefineRequest :=
  .of_sameBounds (fun c x s => by
    simp only [slotDefineRequest]
    split
    · exact .of_eq rfl rfl rfl
    · split_ifs
      · exact .of_eq rfl rfl rfl
      · exact .refl s) .refl

theorem slotWriteRequest_keepsCapture : RequestKeeps CaptureSound slotWriteRequest :=
  .of_sameBounds (fun c x s => by
    simp only [slotWriteRequest]
    split
    · exact .refl s
    · exact .of_eq rfl rfl rfl) .refl

theorem slotPublishRequest_keepsCapture : RequestKeeps CaptureSound slotPublishRequest :=
  .of_sameBounds (fun c x s => by
    simp only [slotPublishRequest]
    split
    · exact .refl s
    · exact .of_eq rfl rfl rfl) .refl

theorem SameBounds.startSlot (s : State) (i : Fin 16) (d : SlotData) : SameBounds s (s.startSlot i d) :=
  (SameBounds.of_eq (s := s) (t := s.setSlot i (some { d with run := .running, nextDue := s.lt })) rfl rfl rfl).trans
    ((SameBounds.of_carousel (State.joinDue_frame _ i)).trans (.of_carousel (State.choose_frame _)))

theorem slotStartRequest_keepsCapture : RequestKeeps CaptureSound slotStartRequest :=
  .of_sameBounds (fun c i s => by
    simp only [slotStartRequest]
    split
    · exact .refl s
    · split
      · exact .refl s
      · exact .refl s
      · split_ifs
        · exact .refl s
        · split
          · exact .refl s
          · exact .startSlot s _ _) .refl

theorem slotStopRequest_keepsCapture : RequestKeeps CaptureSound slotStopRequest :=
  .of_sameBounds (fun c i s => by
    simp only [slotStopRequest]
    split
    · exact .refl s
    · split_ifs
      · exact .of_eq rfl rfl rfl
      · exact .refl s) .refl

theorem slotClearRequest_keepsCapture : RequestKeeps CaptureSound slotClearRequest :=
  .of_sameBounds (fun c i s => by
    simp only [slotClearRequest]
    split
    · exact .refl s
    · split_ifs
      · exact .of_eq rfl rfl rfl
      · exact .refl s) .refl

theorem pauseRequest_keepsCapture : RequestKeeps CaptureSound pauseRequest :=
  .of_sameBounds (fun c _ s => by
    simp only [pauseRequest]
    split
    · simp only [pauseNow]
      split
      · split_ifs
        · exact .of_eq rfl rfl rfl
        · exact .of_eq rfl rfl rfl
      · exact .of_eq rfl rfl rfl
      · exact .refl s
    · exact .refl s) .refl

theorem resumeRequest_keepsCapture : RequestKeeps CaptureSound resumeRequest :=
  .of_sameBounds (fun c _ s => by
    simp only [resumeRequest]
    split_ifs
    · exact .of_eq rfl rfl rfl
    · exact .of_eq rfl rfl rfl) .refl

/-- Cleared counters are no change of a context's state (R170). -/
theorem SameBounds.clearGroup (s : State) (g : CounterGroup) : SameBounds s (Machine.clearGroup s g) := by
  cases g with
  | contexts => exact ⟨fun i => (congrArg Context.state (mapAll_get _ _ i)).trans rfl, rfl, fun _ => rfl⟩
  | input | output | bankA | bankB | entry | slots | agent => exact .of_eq rfl rfl rfl

theorem countClearRequest_keepsCapture : RequestKeeps CaptureSound countClearRequest :=
  .of_sameBounds (fun c x s => by
    simp only [countClearRequest]
    split
    · exact .clearGroup s _
    · split
      · exact .refl s
      · exact .of_eq rfl rfl rfl) .refl

theorem tagsSetRequest_keepsCapture : RequestKeeps CaptureSound tagsSetRequest :=
  .of_sameBounds (fun c x s => by
    simp only [tagsSetRequest]
    split
    · exact .refl s
    · exact .of_eq rfl rfl rfl) .refl

/-! ### The blocks' own steps -/

/-- An outcome that leaves contexts' states, filing list and bodies keeps the bounds. -/
theorem ensures_of_sameBounds {s t : State} {o : Host.Outcome State Fault Refusal} (h : CaptureSound s) (ho : o = .next t)
    (hs : SameBounds s t) : Ensures CaptureSound o :=
  ensures_of_eq ho (hs.sound h)

theorem execCaptureHandoff_keepsCapture {s : State} (h : CaptureSound s) : Ensures CaptureSound (execCaptureHandoff s) := by
  unfold execCaptureHandoff
  split
  · next d rest _ =>
    exact (ensures_next _ _).mpr (captureSound_takeHandoff (s := { s with capture := { s.capture with input := rest } }) h d)
  · exact (ensures_next _ _).mpr h

theorem execAssemblyDeadlineReached_keepsCapture (i : Fin 8) {s : State} (h : CaptureSound s) :
    Ensures CaptureSound (execAssemblyDeadlineReached i s) := by
  unfold execAssemblyDeadlineReached
  split
  · split_ifs
    · exact (ensures_next _ _).mpr (captureSound_abandon h i _)
    · exact (ensures_next _ _).mpr h
  · exact (ensures_next _ _).mpr h
  · exact (ensures_next _ _).mpr h

theorem execCaptureBindingUpdate_keepsCapture {s : State} (h : CaptureSound s) : Ensures CaptureSound (execCaptureBindingUpdate s) := by
  unfold execCaptureBindingUpdate
  split
  · next b rest _ =>
    exact (ensures_next _ _).mpr (captureSound_foldl (fun s i h => captureSound_bindContext h i _) _
      (s := { s with capture := { s.capture with input := rest } }) h)
  · exact (ensures_next _ _).mpr h

theorem execSyncLossCaptureAbandon_keepsCapture {s : State} (h : CaptureSound s) :
    Ensures CaptureSound (execSyncLossCaptureAbandon s) := by
  unfold execSyncLossCaptureAbandon
  split
  · next rest _ =>
    exact (ensures_next _ _).mpr (captureSound_abandonAll (s := { s with capture := { s.capture with input := rest } }) h)
  · next rest _ _ =>
    exact (ensures_next _ _).mpr
      (captureSound_abandonAll (s := { s with classifier := { s.classifier with input := .syncLoss true :: rest } }) h)
  · exact (ensures_next _ _).mpr h

theorem execCommitDue_sameBounds (s : State) : Ensures (SameBounds s) (execCommitDue s) := by
  unfold execCommitDue
  split
  · exact (ensures_next _ _).mpr (.refl s)
  · split_ifs
    · split
      · exact (ensures_next _ _).mpr (.of_eq rfl rfl rfl)
      · exact (ensures_next _ _).mpr (.of_eq rfl rfl rfl)
    · exact (ensures_next _ _).mpr (.refl s)

theorem execQueueEmptyEvent_sameBounds (s : State) : Ensures (SameBounds s) (execQueueEmptyEvent s) := by
  unfold execQueueEmptyEvent
  split
  · exact (ensures_next _ _).mpr (.refl s)
  · dsimp only
    split_ifs
    · exact (ensures_next _ _).mpr (.of_eq rfl rfl rfl)
    · exact (ensures_next _ _).mpr (.of_eq rfl rfl rfl)

theorem execSlotDue_sameBounds (i : Fin 16) (s : State) : Ensures (SameBounds s) (execSlotDue i s) := by
  unfold execSlotDue
  split
  · exact (ensures_next _ _).mpr (.refl s)
  · split_ifs
    · exact (ensures_next _ _).mpr ((SameBounds.of_carousel (State.joinDue_frame s i)).trans (.of_carousel (State.choose_frame _)))
    · exact (ensures_next _ _).mpr (.refl s)

theorem execTableCellPlacement_sameBounds (s : State) : Ensures (SameBounds s) (execTableCellPlacement s) := by
  have placed (ts : List TableCell) (c : Carousel) :
      SameBounds s { s with queues := { s.queues with table := ts }, carousel := c } := .of_eq rfl rfl rfl
  unfold execTableCellPlacement
  split
  · exact (ensures_next _ _).mpr (.refl s)
  · split
    · exact (ensures_next _ _).mpr (.refl s)
    · split_ifs
      · exact (ensures_next _ _).mpr (placed _ _)
      · exact (ensures_next _ _).mpr ((placed _ _).trans (.of_carousel (State.choose_frame _)))
      · exact (ensures_next _ _).mpr (.refl s)

theorem EventStep.sameBounds {s t : State} (h : EventStep s t) : SameBounds s t := by
  obtain ⟨k, e, rs, -, rfl⟩ := h
  exact .of_eq rfl rfl rfl

/-- A CAPTURE_READY notice clears the owed flag of its record (R92). -/
theorem execCaptureReadyNotice_sameBounds (s : State) : Ensures (SameBounds s) (execCaptureReadyNotice s) := by
  unfold execCaptureReadyNotice
  split
  · exact (ensures_next _ _).mpr (.refl s)
  · next i _ =>
    split
    · exact (ensures_next _ _).mpr (.refl s)
    · next x hx =>
      split_ifs
      · refine (ensures_next _ _).mpr ⟨fun _ => rfl, rfl, fun r => ?_⟩
        change (setAt s.capture.store i _)[r].map Record.body = _
        by_cases hr : r = i
        · subst hr
          rw [setAt_same, hx]
          rfl
        · rw [setAt_other _ _ _ _ hr]
      · exact (ensures_next _ _).mpr (.refl s)

theorem execCompletionNotice_sameBounds (s : State) : Ensures (SameBounds s) (execCompletionNotice s) := by
  unfold execCompletionNotice
  split
  · split_ifs
    · exact (ensures_next _ _).mpr (.of_eq rfl rfl rfl)
    · exact (ensures_next _ _).mpr (.refl s)
  · exact (ensures_next _ _).mpr (.refl s)
  · exact (ensures_next _ _).mpr (.refl s)

theorem execConditionNotice_sameBounds (s : State) : Ensures (SameBounds s) (execConditionNotice s) := by
  unfold execConditionNotice
  split
  · exact (ensures_next _ _).mpr (.refl s)
  · split_ifs
    · exact (ensures_next _ _).mpr (.of_eq rfl rfl rfl)
    · exact (ensures_next _ _).mpr (.refl s)

/-! ### Resets and restarts (R97, R98) -/

/-- A WARM restart leaves no context assembling and every record FREE. -/
theorem captureSound_warm (s : State) : CaptureSound s.warm := by
  refine (captureSound_iff _).mpr ⟨fun i p hp => ?_, .nil, fun r => ?_, fun r x hx => ?_⟩
  · rw [warm_context] at hp
    dsimp only at hp
    split_ifs at hp
  · rw [warm_record]
    exact iff_of_false List.not_mem_nil (by decide)
  · rw [warm_record] at hx
    cases hx

theorem execWarmRestart_keepsCapture {s : State} (h : CaptureSound s) : Ensures CaptureSound (execWarmRestart s) := by
  unfold execWarmRestart
  split_ifs
  · exact ensures_of_sameBounds (captureSound_warm s) rfl (.of_carousel (State.choose_frame _))
  · exact (ensures_next _ _).mpr h

theorem execColdRestart_keepsCapture {s : State} (h : CaptureSound s) : Ensures CaptureSound (execColdRestart s) := by
  unfold execColdRestart
  split_ifs
  · exact ensures_of_sameBounds captureSound_reset rfl (.of_eq rfl rfl rfl)
  · exact (ensures_next _ _).mpr h

/-- Every command keeps the bounds. -/
theorem exec_keepsCapture (i : Instr) {s : State} (h : CaptureSound s) : Ensures CaptureSound (exec i s) := by
  have agent := agentKeeps_captureSound
  have same (hs : Ensures (SameBounds s) (exec i s)) : Ensures CaptureSound (exec i s) := fun t ht => (hs t ht).sound h
  have answers {α : Type} {r : Request α} (act : ∀ c y s, (r.act c y s).2 = s) (after : r.after = id) (code : Byte) :
      Ensures CaptureSound (.next (s.sessionCommand code r)) := agent.sessionCommand (.of_answer act after) h code
  cases i with
  | hardReset => exact ensures_of_sameBounds captureSound_reset rfl (.of_eq rfl rfl rfl)
  | resetNRelease => exact ensures_of_sameBounds h rfl (.of_eq rfl rfl rfl)
  | headerExamination b arrival =>
    obtain ⟨line, items, rs, ht⟩ := execHeaderExamination_frame b arrival s
    exact ensures_of_sameBounds h ht (.of_eq rfl rfl rfl)
  | cellDelivery payload =>
    obtain ⟨line, items, ht⟩ := execCellDelivery_frame payload s
    exact ensures_of_sameBounds h ht (.of_eq rfl rfl rfl)
  | cellClassification =>
    obtain ⟨items, t, ht, offered, b, input, q, n, rs, -, rfl⟩ := execCellClassification_step s
    exact ensures_of_sameBounds h ht (.of_eq rfl rfl rfl)
  | mediaAdmission =>
    obtain ⟨offered, i, b, media, rs, -, -, ht⟩ := execMediaAdmission_frame s
    exact ensures_of_sameBounds h ht (.of_eq rfl rfl rfl)
  | captureHandoff => exact execCaptureHandoff_keepsCapture h
  | assemblyDeadlineReached ctx => exact execAssemblyDeadlineReached_keepsCapture ctx h
  | captureBindingUpdate => exact execCaptureBindingUpdate_keepsCapture h
  | syncLossCaptureAbandon => exact execSyncLossCaptureAbandon_keepsCapture h
  | syncLossResync =>
    obtain ⟨items, a, b, input, -, -, ht⟩ := execSyncLossResync_frame s
    exact ensures_of_sameBounds h ht (.of_eq rfl rfl rfl)
  | commitDue => exact same (execCommitDue_sameBounds s)
  | slotDecision =>
    obtain ⟨q, sched, rs, n, -, ht⟩ := execSlotDecision_frame s
    exact ensures_of_sameBounds h ht (.of_eq rfl rfl rfl)
  | queueEmptyEvent => exact same (execQueueEmptyEvent_sameBounds s)
  | slotDue slot => exact same (execSlotDue_sameBounds slot s)
  | tableCellPlacement => exact same (execTableCellPlacement_sameBounds s)
  | conditionEvent k =>
    obtain ⟨t, ht, hs⟩ := execConditionEvent_step k s
    exact ensures_of_sameBounds h ht hs.sameBounds
  | lineCauseGone =>
    obtain ⟨t, ht, hs⟩ := execLineCauseGone_step s
    exact ensures_of_sameBounds h ht hs.sameBounds
  | sessionExpiry => exact (ensures_next _ _).mpr (agent.endIfExpired h)
  | completionNotice => exact same (execCompletionNotice_sameBounds s)
  | captureReadyNotice => exact same (execCaptureReadyNotice_sameBounds s)
  | conditionNotice => exact same (execConditionNotice_sameBounds s)
  | warmRestart => exact execWarmRestart_keepsCapture h
  | coldRestart => exact execColdRestart_keepsCapture h
  | identify => exact agent.identify h
  | openSession =>
    exact agent.openSession h (fun u c hu => (SameBounds.setOwed (s := u) (t := u.oweAll.openReply c) true rfl rfl rfl).sound hu)
      fun u x c _ hu => (SameBounds.of_eq (s := u) (t := u.openReply c) rfl rfl rfl).sound hu
  | closeSession => exact agent.sessionCommand closeRequest_keepsCapture h _
  | ping => exact answers (fun _ _ _ => rfl) rfl _
  | status => exact answers (fun _ _ _ => rfl) rfl _
  | mapPut => exact agent.sessionCommand (editRequest_keepsCapture (fun f s => putEntry f s.agent.cmdTag) (fun _ _ _ => rfl) rfl) h _
  | mapRemove => exact agent.sessionCommand (editRequest_keepsCapture (fun t _ => removeEntry t) (fun _ _ _ => rfl) rfl) h _
  | mapClear => exact agent.sessionCommand (editRequest_keepsCapture (fun _ _ => clearEdit) (fun _ _ _ => rfl) rfl) h _
  | mapCopy => exact agent.sessionCommand (editRequest_keepsCapture (fun _ s => copyEdit s.map.activeBank) (fun _ _ _ => rfl) rfl) h _
  | mapDefault => exact agent.sessionCommand (editRequest_keepsCapture (fun d _ => defaultEdit d) (fun _ _ _ => rfl) rfl) h _
  | mapRead => exact agent.sessionCommand mapReadRequest_keepsCapture h _
  | commit => exact agent.sessionCommand commitRequest_keepsCapture h _
  | commitCancel => exact agent.sessionCommand commitCancelRequest_keepsCapture h _
  | ctxArm => exact agent.sessionCommand ctxArmRequest_keepsCapture h _
  | ctxDisarm => exact agent.sessionCommand ctxDisarmRequest_keepsCapture h _
  | storeRead => exact answers (fun _ _ _ => rfl) rfl _
  | storeRelease => exact agent.sessionCommand storeReleaseRequest_keepsCapture h _
  | slotDefine => exact agent.sessionCommand slotDefineRequest_keepsCapture h _
  | slotWrite => exact agent.sessionCommand slotWriteRequest_keepsCapture h _
  | slotPublish => exact agent.sessionCommand slotPublishRequest_keepsCapture h _
  | slotStart => exact agent.sessionCommand slotStartRequest_keepsCapture h _
  | slotStop => exact agent.sessionCommand slotStopRequest_keepsCapture h _
  | slotClear => exact agent.sessionCommand slotClearRequest_keepsCapture h _
  | slotQuery => exact answers (fun _ _ _ => rfl) rfl _
  | pause => exact agent.sessionCommand pauseRequest_keepsCapture h _
  | resume => exact agent.sessionCommand resumeRequest_keepsCapture h _
  | condRead => exact answers (fun _ _ _ => rfl) rfl _
  | condAck => exact agent.sessionCommand (.of_sameBounds (fun _ _ _ => .of_eq rfl rfl rfl) .refl) h _
  | countRead => exact answers (fun _ _ _ => rfl) rfl _
  | countClear => exact agent.sessionCommand countClearRequest_keepsCapture h _
  | configSet => exact agent.sessionCommand (.of_sameBounds (fun _ _ _ => .of_eq rfl rfl rfl) .refl) h _
  | configGet => exact answers (fun _ _ _ => rfl) rfl _
  | tagsSet => exact agent.sessionCommand tagsSetRequest_keepsCapture h _
  | restart => exact agent.sessionCommand (.of_sameBounds (fun _ _ s => .refl s) fun _ => .of_eq rfl rfl rfl) h _
  | trefEdge =>
    obtain ⟨lt, line, ht⟩ := execTrefEdge_frame s
    exact ensures_of_sameBounds h ht (.of_eq rfl rfl rfl)
  | unknownCommand =>
    exact (ensures_next _ _).mpr
      (agent.commandStep (.of_answer (fun _ _ _ => rfl) rfl) h (s.sessionCommandOf_step _ unknownRequest))

end Sys2Proof.Machine

namespace Sys2Proof.Proofs

open Sys2Proof.Machine Sys2Proof.Safety

/-- Settles O56: only a start cell of at most 2040 declared bytes and a cell that leaves bytes still to come put a context in ASSEMBLING, and
only filing, release and the restarts change which records are FILLED, the filing list with them. -/
theorem stepKeepsCaptureSound : Obligations.StepKeepsCaptureSound := by
  unfold Obligations.StepKeepsCaptureSound
  intro s t hs ht
  exact step_ensures hs (fun _ => (SameBounds.of_eq (s := s) rfl rfl rfl).sound hs) (fun i _ hu => exec_keepsCapture i hu) t ht

end Sys2Proof.Proofs
end

section
/-! PROOF. CAPTURE_HANDOFF: the cell ignored, abandoned or taken, the accounting of its bytes, and the fate of a complete message (O20, O21). -/

namespace Sys2Proof.Machine

open Sys2Proof.Safety

variable {s : State} {h : Handoff} {p : Partial}

/-- The state in which the given items wait for the Capture Engine. -/
def State.awaiting (s : State) (items : List CaptureItem) : State := { s with capture := { s.capture with input := items } }

/-- The hand-off at the head leaves the list and is taken by its context (R78). -/
theorem exec_captureHandoff {rest : List CaptureItem} (hi : s.capture.input = .handoff h :: rest) :
    exec .captureHandoff s = .next ((s.awaiting rest).takeHandoff h) := by
  change execCaptureHandoff s = _
  simp only [execCaptureHandoff, hi]
  rfl

/-! ### The start of a message (R77, R82) -/

theorem startsMessage_iff (h : Handoff) : (h.cell.hdr.u && !h.cell.hdr.f) = true ↔ StartsMessage h := by
  simp [StartsMessage]

theorem declaredLength_eq (h : Handoff) : beVal [h.cell.payload.getD 2 0, h.cell.payload.getD 3 0] = declaredLength h := by
  simp [beVal, declaredLength]

/-- The three upper bits of a version byte are clear below 32 (R77). -/
theorem versionByte_upper (b : Byte) : (b.extractLsb' 5 3 != 0#3) = true ↔ 32 ≤ b.toNat := by
  have hb := b.isLt
  rw [bne_iff_ne, ne_eq, ← BitVec.toNat_inj, BitVec.extractLsb'_toNat, Nat.shiftRight_eq_div_pow]
  simp only [BitVec.toNat_ofNat]
  omega

theorem takeStart_ignored (hs : ¬ StartsMessage h) : s.takeStart h = s := if_neg fun hc => hs ((startsMessage_iff h).mp hc)

/-- The header checks of a start cell, in their order (R82). -/
theorem takeStart_starts (hs : StartsMessage h) : s.takeStart h =
    if h.cell.hdr.len.toNat < 4 then abandoned s h.context .format
    else if 32 ≤ (h.cell.payload.getD 1 0).toNat then abandoned s h.context .format
    else if 2040 < declaredLength h then abandoned s h.context .length
    else s.accountCell h.context (startOf s h) h.cell := by
  rw [State.takeStart, if_pos ((startsMessage_iff h).mpr hs)]
  simp only [versionByte_upper, declaredLength_eq]
  rfl

theorem takeStart_format (hs : StartsMessage h) (hf : h.cell.hdr.len.toNat < 4 ∨ 32 ≤ (h.cell.payload.getD 1 0).toNat) :
    s.takeStart h = abandoned s h.context .format := by
  rw [takeStart_starts hs]
  by_cases hl : h.cell.hdr.len.toNat < 4
  · rw [if_pos hl]
  · rw [if_neg hl, if_pos (hf.resolve_left hl)]

theorem takeStart_length (hs : StartsMessage h) (hl : 4 ≤ h.cell.hdr.len.toNat) (hv : (h.cell.payload.getD 1 0).toNat < 32)
    (hd : 2040 < declaredLength h) : s.takeStart h = abandoned s h.context .length := by
  rw [takeStart_starts hs, if_neg (not_lt.mpr hl), if_neg (not_le.mpr hv), if_pos hd]

theorem takeStart_sound (hs : SoundStart h) : s.takeStart h = s.accountCell h.context (startOf s h) h.cell := by
  obtain ⟨hs, hl, hv, hd⟩ := hs
  rw [takeStart_starts hs, if_neg (not_lt.mpr hl), if_neg (not_le.mpr hv), if_neg (not_lt.mpr hd)]

/-! ### The hand-off in each state (R81, R82, R84) -/

theorem takeHandoff_idle (hc : s.capture.contexts[h.context].state = .idle) : s.takeHandoff h = s := by
  simp only [State.takeHandoff, hc]

theorem takeHandoff_armed (hc : s.capture.contexts[h.context].state = .armed) : s.takeHandoff h = s.takeStart h := by
  simp only [State.takeHandoff, hc]

/-- The cell's own loss comes first; then the context meets it ARMED. -/
theorem takeHandoff_loses {why : LossReason} (hc : s.capture.contexts[h.context].state = .assembling p)
    (hw : midMessageLoss h = some why) : s.takeHandoff h = (abandoned s h.context why).takeStart h := by
  simp only [State.takeHandoff, hc, hw]
  rfl

theorem takeHandoff_continues (hc : s.capture.contexts[h.context].state = .assembling p) (hw : midMessageLoss h = none) :
    s.takeHandoff h = s.accountCell h.context p h.cell := by
  simp only [State.takeHandoff, hc, hw]

/-- The reason of R84 that a cell gives: GAP, else DAMAGE, else FORMAT. -/
theorem midMessageLoss_eq_some {why : LossReason}
    (hw : (h.gap = true ∧ why = .gap) ∨ (h.gap = false ∧ h.cell.hdr.f = true ∧ why = .damage)
      ∨ (h.gap = false ∧ h.cell.hdr.f = false ∧ (h.cell.hdr.u = true ∨ h.cell.hdr.k = true) ∧ why = .format)) :
    midMessageLoss h = some why := by
  obtain ⟨hg, rfl⟩ | ⟨hg, hf, rfl⟩ | ⟨hg, hf, huk, rfl⟩ := hw
  · simp [midMessageLoss, hg]
  · simp [midMessageLoss, hg, hf]
  · simp [midMessageLoss, hg, hf, huk]

theorem takeHandoff_takesInto (ht : TakesInto s h p) : s.takeHandoff h = s.accountCell h.context p h.cell := by
  obtain ⟨hc, hs, rfl⟩ | ⟨hc, hg, hf, hu, hk⟩ := ht
  · rw [takeHandoff_armed hc, takeStart_sound hs]
  · exact takeHandoff_continues hc (by simp [midMessageLoss, hg, hf, hu, hk])

theorem exec_captureHandoff_takesInto {rest : List CaptureItem} (hi : s.capture.input = .handoff h :: rest) (ht : TakesInto s h p) :
    exec .captureHandoff s = .next ((s.awaiting rest).accountCell h.context p h.cell) := by
  rw [exec_captureHandoff hi, takeHandoff_takesInto (s := s.awaiting rest) ht]

/-- An abandonment whose cell starts a message: the ARMED context takes the cell. -/
theorem takeStart_abandoned (s : State) (h : Handoff) (why : LossReason) :
    (abandoned s h.context why).takeStart h = (abandoned s h.context why).takeHandoff h :=
  (takeHandoff_armed (congrArg Context.state (setAt_same s.capture.contexts h.context _))).symm

/-! ### The bytes still to come (R83) -/

section

variable {i : Fin 8} {c : Cell}

/-- The cell's bytes against the bytes still to come (R83). -/
theorem accountCell_eq (s : State) (i : Fin 8) (p : Partial) (c : Cell) : s.accountCell i p c =
    if c.hdr.len.toNat = stillToCome p then s.completeMessage i { p with held := p.held ++ c.payload.take c.hdr.len.toNat }
    else if stillToCome p < c.hdr.len.toNat then abandoned s i .length
    else if c.hdr.len.toNat = 122 then withContext s i { s.capture.contexts[i] with
      state := .assembling { p with held := p.held ++ c.payload.take c.hdr.len.toNat } }
    else abandoned s i .format := rfl

theorem accountCell_goesOn (hn : c.hdr.len.toNat < stillToCome p) (hfull : c.hdr.len.toNat = 122) : s.accountCell i p c =
    withContext s i { s.capture.contexts[i] with state := .assembling { p with held := p.held ++ c.payload.take c.hdr.len.toNat } } := by
  rw [accountCell_eq, if_neg hn.ne, if_neg hn.le.not_gt, if_pos hfull]

theorem accountCell_short (hn : c.hdr.len.toNat < stillToCome p) (hfull : c.hdr.len.toNat ≠ 122) :
    s.accountCell i p c = abandoned s i .format := by
  rw [accountCell_eq, if_neg hn.ne, if_neg hn.le.not_gt, if_neg hfull]

theorem accountCell_long (hn : stillToCome p < c.hdr.len.toNat) : s.accountCell i p c = abandoned s i .length := by
  rw [accountCell_eq, if_neg hn.ne', if_pos hn]

theorem accountCell_completes (hn : c.hdr.len.toNat = stillToCome p) :
    s.accountCell i p c = s.completeMessage i { p with held := p.held ++ c.payload.take (stillToCome p) } := by
  rw [accountCell_eq, if_pos hn, hn]

end

/-! ### The complete message (R85, R90, R92) -/

theorem messageSound_iff (bytes : List Byte) : messageSound bytes = true ↔
    beVal (bytes.drop (bytes.length - 4)) = (crc32 (bytes.take (bytes.length - 4))).toNat := by
  simp [messageSound]

/-- The first of an ascending list that passes a test, where nothing below it does. -/
theorem find?_of_least {α : Type} (key : α → Nat) {l : List α} (hl : l.Pairwise fun x y => key x < key y) {test : α → Bool} {x : α}
    (hx : x ∈ l) (hp : test x = true) (below : ∀ y, key y < key x → test y = false) : l.find? test = some x := by
  obtain ⟨before, after, rfl⟩ := List.append_of_mem hx
  have hbefore : ∀ y ∈ before, ¬ test y = true := fun y hy => by
    simp [below y ((List.pairwise_append.mp hl).2.2 y hy x List.mem_cons_self)]
  rw [List.find?_append, List.find?_eq_none.mpr hbefore, Option.none_or, List.find?_cons_of_pos hp]

theorem Capture.freeRecord_eq_some {c : Capture} {r : Fin 4} (free : c.store[r] = none)
    (below : ∀ q : Fin 4, q < r → c.store[q].isSome = true) : c.freeRecord = some r :=
  find?_of_least Fin.val (by decide : recordNumbers.Pairwise fun x y => x.val < y.val) (mem_recordNumbers r) (by simp [free])
    fun q hq => by simpa using below q hq

theorem Capture.freeRecord_eq_none {c : Capture} (full : ∀ r : Fin 4, c.store[r].isSome = true) : c.freeRecord = none :=
  List.find?_eq_none.mpr fun r _ => by simpa using Option.isSome_iff_ne_none.mp (full r)

section

variable {i : Fin 8} {f : Filter}

theorem Context.typePasses_iff {c : Context} (hf : c.filter = some f) (type : Byte) :
    c.typePasses type = true ↔ f.type = none ∨ f.type = some type := by
  simp [Context.typePasses, hf]

theorem Context.repeats_iff {c : Context} (hf : c.filter = some f) (v : Version) :
    c.repeats v = true ↔ f.mode = .changed ∧ c.lastVersion = some v := by
  simp [Context.repeats, hf]

theorem completeMessage_unsound (hs : ¬ messageSound p.held = true) : s.completeMessage i p = abandoned s i .crc := by
  rw [State.completeMessage, if_pos (by simpa using hs)]
  rfl

variable (hs : messageSound p.held = true) (hf : s.capture.contexts[i].filter = some f)

include hs hf

theorem completeMessage_otherType (ht : ¬ (f.type = none ∨ f.type = some p.type)) :
    s.completeMessage i p = withContext s i { s.capture.contexts[i] with state := .armed } := by
  have htype : s.capture.contexts[i].typePasses p.type = false := by
    rwa [← Bool.not_eq_true, Context.typePasses_iff hf]
  rw [State.completeMessage, hs, htype]
  rfl

theorem completeMessage_passes (ht : f.type = none ∨ f.type = some p.type) : s.completeMessage i p =
    if f.mode = .changed ∧ s.capture.contexts[i].lastVersion = some p.version then
      withContext s i { s.capture.contexts[i] with
        state := .armed
        counters := { s.capture.contexts[i].counters with repeats := Counter.inc s.capture.contexts[i].counters.repeats } }
    else s.fileMessage i p := by
  have htype : s.capture.contexts[i].typePasses p.type = true := (Context.typePasses_iff hf _).mpr ht
  rw [State.completeMessage, hs, htype]
  simp only [Context.repeats_iff hf]
  rfl

end

/-- With every record FILLED a passing message is an overrun (R92). -/
theorem fileMessage_overruns (i : Fin 8) (p : Partial) (full : ∀ r : Fin 4, s.capture.store[r].isSome = true) : s.fileMessage i p =
    { withContext s i { s.capture.contexts[i] with
        state := .armed
        counters := { s.capture.contexts[i].counters with overruns := Counter.inc s.capture.contexts[i].counters.overruns } } with
      reports := s.reports ++ [.event .captureLoss] } := by
  simp only [State.fileMessage, Capture.freeRecord_eq_none full]
  rfl

/-- Else it is filed in the lowest FREE record (R90). -/
theorem fileMessage_files (i : Fin 8) (p : Partial) {r : Fin 4} (free : s.capture.store[r] = none)
    (below : ∀ q : Fin 4, q < r → s.capture.store[q].isSome = true) : s.fileMessage i p =
    { s with capture := { s.capture with
        store := setAt s.capture.store r (some (p.record i s.lt s.agent.session.isSome))
        filing := s.capture.filing ++ [r]
        contexts := setAt s.capture.contexts i { s.capture.contexts[i] with
          state := .armed, lastVersion := some p.version
          counters := { s.capture.contexts[i].counters with delivered := Counter.inc s.capture.contexts[i].counters.delivered } } } } := by
  simp only [State.fileMessage, Capture.freeRecord_eq_some free below]

end Sys2Proof.Machine

namespace Sys2Proof.Proofs

open Sys2Proof.Machine Sys2Proof.Safety

/-- Settles O20: the hand-off is taken by its context; a cell taken into a partial message is accounted, whether it started or continued it. -/
theorem handoffTaken : Obligations.HandoffTaken := by
  unfold Obligations.HandoffTaken
  refine ⟨fun s h rest hi => ?_, fun s h rest p hi ht => ?_⟩
  · have taken {t : State} (h' : (s.awaiting rest).takeHandoff h = t) : exec .captureHandoff s = .next t := h' ▸ exec_captureHandoff hi
    have armed (hc : s.capture.contexts[h.context].state = .armed) : (s.awaiting rest).takeHandoff h = (s.awaiting rest).takeStart h :=
      takeHandoff_armed hc
    refine ⟨fun hc => ?_, fun hc hs => ?_, fun hc hs hf => ?_, fun hc hs hl hv hd => ?_, fun p hc why hw => ⟨fun hs => ?_, fun hs => ?_⟩⟩
    · exact taken (takeHandoff_idle hc)
    · exact taken ((armed hc).trans (takeStart_ignored hs))
    · exact taken ((armed hc).trans (takeStart_format hs hf))
    · exact taken ((armed hc).trans (takeStart_length hs hl hv hd))
    · exact taken ((takeHandoff_loses (s := s.awaiting rest) hc (midMessageLoss_eq_some hw)).trans (takeStart_ignored hs))
    · rw [exec_captureHandoff (s := abandoned s h.context why) hi]
      exact taken ((takeHandoff_loses (s := s.awaiting rest) hc (midMessageLoss_eq_some hw)).trans (takeStart_abandoned _ h why))
  · have accounted {t : State} (h' : (s.awaiting rest).accountCell h.context p h.cell = t) : exec .captureHandoff s = .next t :=
      h' ▸ exec_captureHandoff_takesInto hi ht
    exact ⟨fun hn hfull => accounted (accountCell_goesOn hn hfull), fun hn hfull => accounted (accountCell_short hn hfull),
      fun hn => accounted (accountCell_long hn)⟩

/-- Settles O21: the cell completes the message, whose tests come in R85's order. -/
theorem completeMessageFate : Obligations.CompleteMessageFate := by
  unfold Obligations.CompleteMessageFate
  intro s h rest p f hi ht hf hn s0 i x bytes sound typed repeats
  have completed {t : State} (h' : s0.completeMessage i { p with held := bytes } = t) : exec .captureHandoff s = .next t :=
    h' ▸ (exec_captureHandoff_takesInto hi ht).trans (congrArg Host.Outcome.next (accountCell_completes hn))
  have hsound : messageSound bytes = true ↔ sound := messageSound_iff bytes
  have passed (hs : sound) (hty : typed) := completeMessage_passes (s := s0) (p := { p with held := bytes }) (hsound.mpr hs) hf hty
  refine ⟨fun hs => ?_, fun hs hty => ?_, fun hs hty hr => ?_, fun hs hty hr full => ?_, fun r hs hty hr free below => ?_⟩
  · exact completed (completeMessage_unsound (mt hsound.mp hs))
  · exact completed (completeMessage_otherType (hsound.mpr hs) hf hty)
  · exact completed ((passed hs hty).trans (if_pos hr))
  · exact completed ((passed hs hty).trans ((if_neg hr).trans (fileMessage_overruns i _ full)))
  · exact completed ((passed hs hty).trans ((if_neg hr).trans (fileMessage_files i _ free below)))

end Sys2Proof.Proofs
end

section
/-! PROOF. Losses without a cell: assembly deadlines, binding reports, sync losses (O22). -/

namespace Sys2Proof.Machine

open Sys2Proof.Safety

/-! ### A change made for every context (R88, R89) -/

/-- The contexts with those of a list changed. -/
def changeContexts (change : Fin 8 → Context → Context) (is : List (Fin 8)) (cs : Vector Context 8) : Vector Context 8 :=
  Vector.ofFn fun i => if i ∈ is then change i cs[i] else cs[i]

@[simp] theorem changeContexts_get (change : Fin 8 → Context → Context) (is : List (Fin 8)) (cs : Vector Context 8) (i : Fin 8) :
    (changeContexts change is cs)[i] = if i ∈ is then change i cs[i] else cs[i] := by
  simp [changeContexts]

theorem context_ext {cs ds : Vector Context 8} (h : ∀ i : Fin 8, cs[i] = ds[i]) : cs = ds :=
  Vector.ext fun i hi => h ⟨i, hi⟩

/-- What is done at one LT to one context: it is changed, and a loss is reported where it loses a message. -/
structure ContextChange (lt : Lt) (f : State → Fin 8 → State) (change : Fin 8 → Context → Context)
    (loses : Fin 8 → Context → Bool) : Prop where
  eq : ∀ (s : State) (i : Fin 8), s.lt = lt → f s i = { s with
    capture := { s.capture with contexts := setAt s.capture.contexts i (change i s.capture.contexts[i]) }
    reports := s.reports ++ List.replicate (if loses i s.capture.contexts[i] then 1 else 0) (.event .captureLoss) }

/-- Done for the contexts of a list, it changes those, and reports as many losses as of them lose a message. -/
theorem ContextChange.foldl {f : State → Fin 8 → State} {change : Fin 8 → Context → Context} {loses : Fin 8 → Context → Bool} {s : State}
    (hf : ContextChange s.lt f change loses) {is : List (Fin 8)} (hn : is.Nodup) : is.foldl f s = { s with
      capture := { s.capture with contexts := changeContexts change is s.capture.contexts }
      reports := s.reports ++ List.replicate (is.countP fun i => loses i s.capture.contexts[i]) (.event .captureLoss) } := by
  induction is generalizing s with
  | nil =>
    have hc : changeContexts change [] s.capture.contexts = s.capture.contexts := context_ext fun i => by
      rw [changeContexts_get, if_neg List.not_mem_nil]
    simp [hc]
  | cons i is ih =>
    obtain ⟨hi, hn⟩ := List.nodup_cons.mp hn
    have hother (j : Fin 8) (hj : j ∈ is) (c : Context) : (setAt s.capture.contexts i c)[j] = s.capture.contexts[j] :=
      setAt_other _ _ _ _ fun e => hi (e ▸ hj)
    have hcontexts : changeContexts change is (setAt s.capture.contexts i (change i s.capture.contexts[i])) =
        changeContexts change (i :: is) s.capture.contexts := context_ext fun j => by
      rw [changeContexts_get, changeContexts_get]
      by_cases hj : j ∈ is
      · rw [if_pos hj, if_pos (List.mem_cons_of_mem i hj), hother j hj]
      · by_cases hji : j = i
        · subst hji
          rw [if_neg hj, if_pos List.mem_cons_self, setAt_same]
        · rw [if_neg hj, if_neg (by simp [hji, hj]), setAt_other _ _ _ _ hji]
    have hcount : is.countP (fun j => loses j (setAt s.capture.contexts i (change i s.capture.contexts[i]))[j]) =
        is.countP fun j => loses j s.capture.contexts[j] :=
      List.countP_congr fun j hj => by rw [hother j hj]
    rw [List.foldl_cons, hf.eq s i rfl, ih (s := { s with
      capture := { s.capture with contexts := setAt s.capture.contexts i (change i s.capture.contexts[i]) }
      reports := s.reports ++ List.replicate (if loses i s.capture.contexts[i] then 1 else 0) (.event .captureLoss) }) hf hn]
    simp only [hcontexts, hcount, List.append_assoc, List.replicate_append_replicate, List.countP_cons, Nat.add_comm]

/-- Done for all eight. -/
theorem ContextChange.all {f : State → Fin 8 → State} {change : Fin 8 → Context → Context} {loses : Fin 8 → Context → Bool} {s : State}
    (hf : ContextChange s.lt f change loses) : contextNumbers.foldl f s = { s with
      capture := { s.capture with contexts := changeContexts change contextNumbers s.capture.contexts }
      reports := s.reports ++ List.replicate (contextNumbers.countP fun i => loses i s.capture.contexts[i]) (.event .captureLoss) } :=
  hf.foldl (by decide)

/-! ### The three losses (R87 to R89) -/

/-- An abandoned context (R86). -/
def Context.lost (c : Context) (why : LossReason) (lt : Lt) : Context :=
  { c with state := .armed, lastLoss := some (why, lt), counters := { c.counters with abandoned := Counter.inc c.counters.abandoned } }

/-- The context assembles a message. -/
def Context.assembles (c : Context) : Bool :=
  match c.state with
  | .assembling _ => true
  | _ => false

/-- The context assembles a message of another source than it is now bound to (R88). -/
def Context.unbound (c : Context) (b : Option Tag) : Bool :=
  match c.state with
  | .assembling p => !decide (b = some p.source)
  | _ => false

theorem Context.unbound_assembling {c : Context} {p : Partial} (hp : c.state = .assembling p) (b : Option Tag) :
    c.unbound b = !decide (b = some p.source) := by
  simp only [Context.unbound, hp]

theorem Context.unbound_of_not_assembling {c : Context} (hc : ∀ p, c.state ≠ .assembling p) (b : Option Tag) : c.unbound b = false := by
  unfold Context.unbound
  split
  · next p hp => exact absurd hp (hc p)
  · rfl

theorem setAt_setAt {α : Type} {n : Nat} (v : Vector α n) (i : Fin n) (x y : α) : setAt (setAt v i x) i y = setAt v i y := by
  simp [setAt]

theorem bindContext_unbound {s : State} {i : Fin 8} {b : Option Tag} (hu : s.capture.contexts[i].unbound b = true) :
    s.bindContext i b = { s with
      capture := { s.capture with
        contexts := setAt s.capture.contexts i { s.capture.contexts[i].lost .unbound s.lt with binding := b } }
      reports := s.reports ++ [.event .captureLoss] } := by
  cases hc : s.capture.contexts[i].state with
  | idle => rw [Context.unbound_of_not_assembling (by simp only [hc]; nofun)] at hu; cases hu
  | armed => rw [Context.unbound_of_not_assembling (by simp only [hc]; nofun)] at hu; cases hu
  | assembling p =>
    have hb : b ≠ some p.source := by
      rw [Context.unbound_assembling hc] at hu
      simpa using hu
    simp only [State.bindContext, hc, if_neg hb, State.setContext, State.abandon_contexts, if_true]
    simp only [State.abandon, State.setContext, State.report, setAt_setAt]
    rfl

theorem bindContext_kept {s : State} {i : Fin 8} {b : Option Tag} (hu : s.capture.contexts[i].unbound b = false) :
    s.bindContext i b = withContext s i { s.capture.contexts[i] with binding := b } := by
  cases hc : s.capture.contexts[i].state with
  | idle => simp only [State.bindContext, hc]; rfl
  | armed => simp only [State.bindContext, hc]; rfl
  | assembling p =>
    have hb : b = some p.source := by
      rw [Context.unbound_assembling hc] at hu
      simpa using hu
    simp only [State.bindContext, hc, if_pos hb]
    rfl

/-- A context that has taken its binding (R88). -/
def Context.rebound (c : Context) (b : Option Tag) (lt : Lt) : Context :=
  { (if c.unbound b then c.lost .unbound lt else c) with binding := b }

theorem Context.rebound_unbound {c : Context} {b : Option Tag} {lt : Lt} (hu : c.unbound b = true) :
    c.rebound b lt = { c.lost .unbound lt with binding := b } := by
  rw [Context.rebound, if_pos hu]

theorem Context.rebound_kept {c : Context} {b : Option Tag} {lt : Lt} (hu : c.unbound b = false) :
    c.rebound b lt = { c with binding := b } := by
  rw [Context.rebound, if_neg (by rw [hu]; decide)]

/-- A binding report on every context (R88). -/
theorem bindContexts_eq (s : State) (b : Vector (Option Tag) 8) : contextNumbers.foldl (fun s i => s.bindContext i b[i]) s = { s with
    capture := { s.capture with
      contexts := changeContexts (fun i c => c.rebound b[i] s.lt) contextNumbers s.capture.contexts }
    reports := s.reports ++
      List.replicate (contextNumbers.countP fun i => s.capture.contexts[i].unbound b[i]) (.event .captureLoss) } :=
  ContextChange.all (loses := fun i c => c.unbound b[i]) ⟨fun u i hlt => by
    cases hu : u.capture.contexts[i].unbound b[i] with
    | true => rw [bindContext_unbound hu, Context.rebound_unbound hu, hlt]; rfl
    | false =>
      rw [bindContext_kept hu, Context.rebound_kept hu]
      simp only [Bool.false_eq_true, if_false, List.replicate_zero, List.append_nil]
      rfl⟩

/-- A context that has taken a sync loss (R89). -/
def Context.unlocked (c : Context) (lt : Lt) : Context := if c.assembles then c.lost .line lt else c

/-- A sync loss on every context (R89). -/
theorem abandonAll_eq (s : State) : s.abandonAll = { s with
    capture := { s.capture with contexts := changeContexts (fun _ c => c.unlocked s.lt) contextNumbers s.capture.contexts }
    reports := s.reports ++
      List.replicate (contextNumbers.countP fun i => s.capture.contexts[i].assembles) (.event .captureLoss) } :=
  ContextChange.all (loses := fun _ c => c.assembles) ⟨fun u i hlt => by
    cases hc : u.capture.contexts[i].state with
    | assembling p =>
      have ha : u.capture.contexts[i].assembles = true := by simp only [Context.assembles, hc]
      simp only [Context.unlocked, ha, if_true, ← hlt]
      rfl
    | idle | armed =>
      have ha : u.capture.contexts[i].assembles = false := by simp only [Context.assembles, hc]
      simp only [Context.unlocked, ha, Bool.false_eq_true, if_false, List.replicate_zero, List.append_nil, setAt_self]⟩

theorem exec_captureBindingUpdate {s : State} {b : Vector (Option Tag) 8} {rest : List CaptureItem}
    (hi : s.capture.input = .bindings b :: rest) : exec .captureBindingUpdate s =
    .next (contextNumbers.foldl (fun s i => s.bindContext i b[i]) (s.awaiting rest)) := by
  change execCaptureBindingUpdate s = _
  simp only [execCaptureBindingUpdate, hi]
  rfl

/-- The Capture Engine's own report of a sync loss (R89). -/
theorem exec_syncLossCaptureAbandon_own {s : State} {rest : List CaptureItem} (hi : s.capture.input = .syncLoss :: rest) :
    exec .syncLossCaptureAbandon s = .next (s.awaiting rest).abandonAll := by
  change execSyncLossCaptureAbandon s = _
  simp only [execSyncLossCaptureAbandon, hi]
  rfl

/-- The Line Receiver's report taken early, and marked as taken (R89; log 26). -/
theorem exec_syncLossCaptureAbandon_early {s : State} {rest : List ClassItem} (hi : s.capture.input = [])
    (hc : s.classifier.input = .syncLoss false :: rest) : exec .syncLossCaptureAbandon s =
    .next (State.abandonAll { s with classifier := { s.classifier with input := .syncLoss true :: rest } }) := by
  change execSyncLossCaptureAbandon s = _
  simp only [execSyncLossCaptureAbandon, hi, hc]

end Sys2Proof.Machine

namespace Sys2Proof.Proofs

open Sys2Proof.Machine Sys2Proof.Safety

/-- Settles O22: a report is taken context by context, and no context's change touches another. -/
theorem lossesWithoutACell : Obligations.LossesWithoutACell := by
  unfold Obligations.LossesWithoutACell
  refine ⟨fun s i => ?_, fun s b rest hi => ?_, fun s => ?_⟩
  · have hexec : exec (.assemblyDeadlineReached i) s = execAssemblyDeadlineReached i s := rfl
    rw [hexec]
    refine ⟨fun p hp hr => ?_, fun p hp hr => ?_, fun hc => ?_⟩
    · simp only [execAssemblyDeadlineReached, hp, hr]
      rfl
    · simp only [execAssemblyDeadlineReached, hp, hr]
      rfl
    · obtain hc | hc := hc <;> simp only [execAssemblyDeadlineReached, hc]
  · refine ⟨changeContexts (fun i c => c.rebound b[i] s.lt) contextNumbers s.capture.contexts,
      (exec_captureBindingUpdate hi).trans (congrArg Host.Outcome.next (bindContexts_eq (s.awaiting rest) b)), fun i => ?_⟩
    rw [changeContexts_get, if_pos (mem_contextNumbers i)]
    exact ⟨Context.rebound_unbound, Context.rebound_kept⟩
  · refine ⟨changeContexts (fun _ c => c.unlocked s.lt) contextNumbers s.capture.contexts,
      fun rest hi => (exec_syncLossCaptureAbandon_own hi).trans (congrArg Host.Outcome.next (abandonAll_eq (s.awaiting rest))),
      fun rest hi hc => (exec_syncLossCaptureAbandon_early hi hc).trans (congrArg Host.Outcome.next (abandonAll_eq _)), fun i => ?_⟩
    rw [changeContexts_get, if_pos (mem_contextNumbers i)]
    exact ⟨fun ha => if_pos ha, fun ha => if_neg (Bool.eq_false_iff.mp ha)⟩

end Sys2Proof.Proofs
end

section
/-! PROOF. The three notices: COMPLETION, CAPTURE_READY and CONDITION (O32). -/

namespace Sys2Proof.Machine

open Sys2Proof.Safety

variable {s : State} {x : Session}

theorem noticeAllowed_of_mayNotice (h : MayNotice s x) : s.noticeAllowed = true := by
  obtain ⟨hs, hm, hq⟩ := h
  have hroom : s.queues.mgmt.length + 2 ≤ Config.mgmtBuffers := by
    rw [Config.mgmtBuffers]
    omega
  simp [State.noticeAllowed, hs, hm, hroom]

/-- A notice is placed on the state `n` in which the thing owed is gone (R151, R208). -/
theorem placeNotice_eq {n : State} (hs : s.agent.session = some x) (he : n.agent.session = s.agent.session) (hq : n.queues = s.queues)
    (hr : n.agent.replySeq = s.agent.replySeq) (hn : n.agent.noticeNo = s.agent.noticeNo) (ht : n.agent.replyTag = s.agent.replyTag)
    (kind : Byte) (contents : List Byte) : n.placeNotice kind contents = noticed s n x kind contents := by
  simp only [State.placeNotice, State.placeMgmt, noticed, noticePayload, he, hs, hq, hr, hn, ht, Option.map_some, Option.getD_some]

/-- The version's byte carries its number (R206). -/
theorem version_byte (v : Version) : v.zeroExtend 8 = BitVec.ofNat 8 v.toNat := BitVec.eq_of_toNat_eq (by simp)

/-! ### What is owed first (R152) -/

/-- The first record in filing order that owes a notice. -/
theorem firstOwed_record {c : Capture} {before after : List (Fin 4)} {i : Fin 4} {r : Record} (hf : c.filing = before ++ i :: after)
    (hb : ∀ j ∈ before, ∀ y, c.store[j] = some y → y.noticeOwed = false) (hi : c.store[i] = some r) (ho : r.noticeOwed = true) :
    c.firstOwed = some i := by
  have hbefore : ∀ j ∈ before, ¬ owes c.store[j] = true := fun j hj => by
    cases hy : c.store[j] with
    | none => simp [owes]
    | some y => simp [owes, hb j hj y hy]
  have howes : owes c.store[i] = true := by rw [hi]; exact ho
  rw [Capture.firstOwed, hf, List.find?_append, List.find?_eq_none.mpr hbefore, Option.none_or,
    List.find?_cons_of_pos (p := fun q : Fin 4 => owes c.store[q]) howes]

/-- The first condition in kind order that owes a notice. -/
theorem firstOwed_condition {a : Agent} {k : CondKind} (ho : (a.cond k).noticeOwed = true)
    (hb : ∀ j, kindIndex j < kindIndex k → (a.cond j).noticeOwed = false) : a.firstOwed = some k :=
  find?_of_least (fun j => (kindIndex j).val) (by decide) (mem_condKinds k) ho hb

/-! ### The notices (R150 to R153) -/

theorem exec_completionNotice {k : OpKind} {q : Byte} {o : OpOutcome} (h : MayNotice s x) (hl : s.agent.longOp = .ended k q o) :
    exec .completionNotice s =
      .next (noticed s { s with agent := { s.agent with longOp := .none } } x 1 (completionContents k q o)) := by
  change execCompletionNotice s = _
  simp only [execCompletionNotice, hl, noticeAllowed_of_mayNotice h, if_true]
  refine congrArg Host.Outcome.next (placeNotice_eq h.1 ?_ ?_ ?_ ?_ ?_ _ _) <;> rfl

theorem exec_captureReadyNotice {i : Fin 4} {r : Record} (h : MayNotice s x) (hl : s.agent.longOp.isEnded = false)
    (hf : s.capture.firstOwed = some i) (hr : s.capture.store[i] = some r) : exec .captureReadyNotice s =
      .next (noticed s { s with capture := { s.capture with
        store := setAt s.capture.store i (some { r with noticeOwed := false }) } } x 2 (captureReadyContents i r)) := by
  change execCaptureReadyNotice s = _
  simp only [execCaptureReadyNotice, hf, hr, noticeAllowed_of_mayNotice h, hl, Bool.not_false, Bool.and_self, if_true]
  refine congrArg Host.Outcome.next (placeNotice_eq h.1 ?_ ?_ ?_ ?_ ?_ _ _) <;> rfl

theorem exec_conditionNotice {k : CondKind} (h : MayNotice s x) (hl : s.agent.longOp.isEnded = false)
    (hc : s.capture.firstOwed = none) (hf : s.agent.firstOwed = some k) : exec .conditionNotice s =
      .next (noticed s { s with agent := s.agent.setCond k { s.agent.cond k with noticeOwed := false } } x 3
        (conditionContents k (s.agent.cond k))) := by
  change execConditionNotice s = _
  simp only [execConditionNotice, hf, hc, noticeAllowed_of_mayNotice h, hl, Option.isNone_none, Bool.not_false, Bool.and_self, if_true]
  refine congrArg Host.Outcome.next (placeNotice_eq h.1 ?_ ?_ ?_ ?_ ?_ _ _) <;> rfl

end Sys2Proof.Machine

namespace Sys2Proof.Proofs

open Sys2Proof.Machine Sys2Proof.Safety

/-- Settles O32: each notice is built when it is first in the order of R152, and places its contents with the next numbers. -/
theorem noticesBuilt : Obligations.NoticesBuilt := by
  unfold Obligations.NoticesBuilt
  refine fun s x h => ⟨fun k q o hl => ?_, fun before after i r hl hf hb hi ho => ?_, fun k hl hc ho hb => ?_⟩
  · rw [exec_completionNotice h hl]
    cases o <;> rfl
  · rw [exec_captureReadyNotice h hl (firstOwed_record hf hb hi ho) hi, captureReadyContents, version_byte]
    rfl
  · rw [exec_conditionNotice h hl hc (firstOwed_condition ho hb)]
    rfl

end Sys2Proof.Proofs
end

section
/-! PROOF. The capture commands: CTX_ARM, CTX_DISARM, STORE_READ, STORE_RELEASE (O43). -/

namespace Sys2Proof.Machine

open Sys2Proof.Safety

variable {s : State} {c : Command} {i : Fin 8} {r : Fin 4}

/-! ### Arguments (R187 to R189, R206) -/

/-- A type stands in the lower of the two bytes of a type filter. -/
theorem typeFilterBytes_type (b : Byte) (mode : VersionMode) : typeFilterBytes ⟨some b, mode⟩ = [0, b] := by
  have hb : b.toNat / 256 = 0 := Nat.div_eq_of_lt b.isLt
  simp [typeFilterBytes, beBytes, hb]

theorem ctxArmRequest_parse (type : Option Byte) (mode : VersionMode) (extra : List Byte) (i : Fin 8) :
    ctxArmRequest.parse (BitVec.ofNat 8 i.val :: (typeFilterBytes ⟨type, mode⟩ ++ mode.toByte :: extra)) = .ok (i, type, mode) := by
  refine threeArgs_ok _ _ _ _ _ _ extra _ _ _ (readIndex_byte 8 i _ (by decide)) ?_ (readMode_toByte mode extra)
  cases type with
  | none => exact readTypeFilter_any _
  | some t => exact readTypeFilter_type t _

theorem ctxDisarmRequest_parse (extra : List Byte) (i : Fin 8) : ctxDisarmRequest.parse (BitVec.ofNat 8 i.val :: extra) = .ok i :=
  oneArg_ok _ _ extra i (readIndex_byte 8 i extra (by decide))

theorem readOffset_beBytes {offset : Nat} (rest : List Byte) (h : offset ≤ 2040 ∨ offset = 65535) :
    readOffset (beBytes 2 offset ++ rest) = some (offset, rest) := by
  have hlt : offset % 256 ^ 2 = offset := by omega
  have hr : offset ≤ Config.bodyBytes ∨ offset = Config.descriptionOffset := h
  rw [readOffset, readWhere, readNat_beBytes, hlt]
  simp [hr]

theorem storeReadRequest_parse {offset : Nat} (extra : List Byte) (r : Fin 4) (h : offset ≤ 2040 ∨ offset = 65535) :
    storeReadRequest.parse (BitVec.ofNat 8 r.val :: (beBytes 2 offset ++ extra)) = .ok (r, offset) :=
  twoArgs_ok _ _ _ _ extra _ _ (readIndex_byte 4 r _ (by decide)) (readOffset_beBytes extra h)

theorem storeReleaseRequest_parse (extra : List Byte) (r : Fin 4) : storeReleaseRequest.parse (BitVec.ofNat 8 r.val :: extra) = .ok r :=
  oneArg_ok _ _ extra r (readIndex_byte 4 r extra (by decide))

/-! ### What they do and answer (R80, R81, R93, R94) -/

theorem arm_assembling {p : Partial} (f : Filter) (h : s.capture.contexts[i].state = .assembling p) : s.arm i f =
    withContext (abandoned s i .rearmed) i { (abandoned s i .rearmed).capture.contexts[i] with
      state := .armed, filter := some f, lastVersion := none } := by
  simp only [State.arm, h]
  rfl

theorem arm_quiet (f : Filter) (h : s.capture.contexts[i].state = .idle ∨ s.capture.contexts[i].state = .armed) : s.arm i f =
    withContext s i { s.capture.contexts[i] with state := .armed, filter := some f, lastVersion := none } := by
  obtain h | h := h
  · simp only [State.arm, h]
    rfl
  · simp only [State.arm, h]
    rfl

/-- The filter that CTX_ARM answers, with its presence bytes (log 12). -/
def filterBytes : Option Filter → List Byte
  | some f => [1] ++ typeFilterBytes f ++ [1, f.mode.toByte]
  | none => [0, 0, 0, 0, 0]

theorem filterBytes_eq (f : Option Filter) :
    optBytes 2 typeFilterBytes f ++ optBytes 1 (fun f : Filter => [f.mode.toByte]) f = filterBytes f := by
  cases f with
  | none => rfl
  | some f => simp [optBytes, filterBytes]

section

variable {rest : List Cell} {x : Session} {extra : List Byte}

theorem exec_ctxArm {u : State} {type : Option Byte} {mode : VersionMode} (h : InSequence s 0x31 c rest x)
    (ha : c.args = BitVec.ofNat 8 i.val :: (typeFilterBytes ⟨type, mode⟩ ++ mode.toByte :: extra))
    (hu : (s.taken rest x).arm i ⟨type, mode⟩ = u.taken rest x) (hq : u.agent.replySeq = s.agent.replySeq) : exec .ctxArm s =
      .next (executed s u c rest x ⟨.done, .none,
        s.capture.contexts[i].state.toByte :: filterBytes s.capture.contexts[i].filter⟩) := by
  have hact : ctxArmRequest.act c (i, type, mode) (s.taken rest x) = (doneWith (s.capture.contexts[i].state.toByte ::
      filterBytes s.capture.contexts[i].filter), u.taken rest x) := by
    rw [← filterBytes_eq, ← hu]
    rfl
  exact congrArg Host.Outcome.next
    (State.sessionCommand_act ctxArmRequest h (ha ▸ ctxArmRequest_parse type mode extra i) rfl hact hq)

theorem exec_ctxDisarm (h : InSequence s 0x32 c rest x) (ha : c.args = BitVec.ofNat 8 i.val :: extra) : exec .ctxDisarm s =
    .next (executed s (withContext s i { s.capture.contexts[i] with state := .idle }) c rest x
      ⟨.done, .none, [s.capture.contexts[i].state.toByte]⟩) :=
  congrArg Host.Outcome.next
    (State.sessionCommand_act (u := withContext s i { s.capture.contexts[i] with state := .idle }) ctxDisarmRequest h
      (ha ▸ ctxDisarmRequest_parse extra i) rfl rfl rfl)

theorem exec_storeRelease {u : State} {a : Answer} (h : InSequence s 0x34 c rest x) (ha : c.args = BitVec.ofNat 8 r.val :: extra)
    (hact : storeReleaseRequest.act c r (s.taken rest x) = (a, u.taken rest x)) (hq : u.agent.replySeq = s.agent.replySeq := by rfl) :
    exec .storeRelease s = .next (executed s u c rest x a) :=
  congrArg Host.Outcome.next (State.sessionCommand_act storeReleaseRequest h (ha ▸ storeReleaseRequest_parse extra r) rfl hact hq)

theorem exec_storeRead {offset : Nat} (h : InSequence s 0x33 c rest x)
    (ha : c.args = BitVec.ofNat 8 r.val :: (beBytes 2 offset ++ extra)) (ho : offset ≤ 2040 ∨ offset = 65535) :
    exec .storeRead s = .next (executed s s c rest x (storeReadAnswer s.capture r offset)) :=
  congrArg Host.Outcome.next
    (State.sessionCommand_act (u := s) storeReadRequest h (ha ▸ storeReadRequest_parse extra r ho) rfl rfl rfl)

end

theorem storeReleaseRequest_act_free (h : s.capture.store[r] = none) : storeReleaseRequest.act c r s = (refusedWith .notFound [], s) := by
  simp only [storeReleaseRequest, h]

theorem storeReleaseRequest_act_filled {z : Record} (h : s.capture.store[r] = some z) : storeReleaseRequest.act c r s =
    (doneWith ([BitVec.ofNat 8 z.context.val] ++ tagBytes z.source ++ ltBytes z.completion), { s with
      capture := { s.capture with store := setAt s.capture.store r none, filing := s.capture.filing.filter fun q => q != r } }) := by
  simp only [storeReleaseRequest, h]
  rfl

theorem storeReadAnswer_free {k : Capture} (offset : Nat) (h : k.store[r] = none) :
    storeReadAnswer k r offset = refusedWith .notFound [] := by
  simp only [storeReadAnswer, h]

theorem storeReadAnswer_body {k : Capture} {offset : Nat} {z : Record} (h : k.store[r] = some z) (ho : offset ≤ 2040) :
    storeReadAnswer k r offset = doneWith ((z.body.drop offset).take 104) := by
  have hne : offset ≠ Config.descriptionOffset := by
    rw [Config.descriptionOffset]
    omega
  simp only [storeReadAnswer, h, if_neg hne]
  rfl

/-- The description's items as they stand on the wire (R188). -/
theorem recordDescription_eq (z : Record) (n : Nat) : recordDescription z n = [BitVec.ofNat 8 z.context.val] ++ beBytes 2 z.source.toNat
    ++ [z.type, BitVec.ofNat 8 z.version.toNat] ++ beBytes 2 z.body.length ++ beBytes 6 z.firstArrival.toNat
    ++ beBytes 6 z.completion.toNat ++ [BitVec.ofNat 8 n, if z.noticeOwed then 1 else 0] := by
  have hn : beBytes 1 n = [BitVec.ofNat 8 n] := by simp [beBytes]
  rw [recordDescription, version_byte, hn, List.append_assoc _ [BitVec.ofNat 8 n]]
  rfl

/-- The place in the filing list, counted from 1 (R188). -/
theorem Capture.position_eq {k : Capture} {before after : List (Fin 4)} (hf : k.filing = before ++ r :: after) (hr : r ∉ before) :
    k.position r = some (before.length + 1) := by
  have hbefore : before.findIdx? (fun q => decide (q = r)) = none := by
    simpa [List.findIdx?_eq_none_iff] using fun q hq (e : q = r) => hr (e ▸ hq)
  simp [Capture.position, hf, List.findIdx?_append, hbefore, List.findIdx?_cons]

theorem storeReadAnswer_description {k : Capture} {z : Record} {before after : List (Fin 4)} (h : k.store[r] = some z)
    (hf : k.filing = before ++ r :: after) (hr : r ∉ before) :
    storeReadAnswer k r 65535 = doneWith (recordDescription z (before.length + 1)) := by
  have hd : (65535 : Nat) = Config.descriptionOffset := rfl
  simp only [storeReadAnswer, h, if_pos hd, k.position_eq hf hr, Option.getD_some]

end Sys2Proof.Machine

namespace Sys2Proof.Proofs

open Sys2Proof.Machine Sys2Proof.Safety

/-- Settles O43: each command's arguments are read, and its request made on its context or record. -/
theorem captureCommandsExecuted : Obligations.CaptureCommandsExecuted := by
  unfold Obligations.CaptureCommandsExecuted
  intro s c rest x i r type mode offset extra y twoBytes before armed
  have htwo (t : Option Byte) (m : VersionMode) : twoBytes t = typeFilterBytes ⟨t, m⟩ := by
    cases t with
    | none => rfl
    | some b => exact (typeFilterBytes_type b m).symm
  have hbefore : before = filterBytes y.filter := by
    cases hy : y.filter with
    | none => simp only [before, hy, filterBytes]
    | some f => simp only [before, hy, filterBytes, htwo f.type f.mode]
  rw [htwo type mode, hbefore]
  refine ⟨fun h ha => ⟨fun p hp => ?_, fun hq => ?_⟩, fun h ha => ?_, fun h ha ho hr => ?_, fun z h ha ho hr => ?_,
    fun z ahead behind h ha ho hr hf hn => ?_, fun h ha hr => ?_, fun z h ha hr => ?_⟩
  · exact exec_ctxArm h ha (arm_assembling (s := s.taken rest x) _ hp) rfl
  · exact exec_ctxArm h ha (arm_quiet (s := s.taken rest x) _ hq) rfl
  · exact exec_ctxDisarm h ha
  · rw [exec_storeRead h ha ho, storeReadAnswer_free offset hr]
    rfl
  · rw [exec_storeRead h ha (.inl ho), storeReadAnswer_body hr ho]
    rfl
  · subst ho
    rw [exec_storeRead h ha (.inr rfl), storeReadAnswer_description hr hf hn, recordDescription_eq]
    rfl
  · exact exec_storeRelease h ha (storeReleaseRequest_act_free hr)
  · exact exec_storeRelease h ha (storeReleaseRequest_act_filled hr)

end Sys2Proof.Proofs
end

section
/-! PROOF. A message framed and cut by the Carousel Engine reads back through an ARMED context (O7). -/

namespace Sys2Proof.Machine

open Sys2Proof.Safety

/-! ### The framed message (R77, R111, R205) -/

/-- The bytes that the check of a message covers: its header and its body. -/
def coveredBytes (type : Byte) (version : Version) (body : List Byte) : List Byte :=
  [type, version.zeroExtend 8] ++ beBytes 2 body.length ++ body

theorem frameMessage_eq (type : Byte) (version : Version) (body : List Byte) :
    frameMessage type version body = coveredBytes type version body ++ beBytes 4 (crc32 (coveredBytes type version body)).toNat := rfl

theorem coveredBytes_length (type : Byte) (version : Version) (body : List Byte) :
    (coveredBytes type version body).length = 4 + body.length := by
  simp [coveredBytes]
  omega

theorem frameMessage_length (type : Byte) (version : Version) (body : List Byte) :
    (frameMessage type version body).length = 8 + body.length := by
  rw [frameMessage_eq, List.length_append, coveredBytes_length, beBytes_length]
  omega

/-- The check of a framed message agrees (R85, R205). -/
theorem messageSound_frameMessage (type : Byte) (version : Version) (body : List Byte) :
    messageSound (frameMessage type version body) = true := by
  have hlen : (frameMessage type version body).length - 4 = (coveredBytes type version body).length := by
    rw [frameMessage_length, coveredBytes_length]
    omega
  have hcrc (v : BitVec 32) : v.toNat % 256 ^ 4 = v.toNat := Nat.mod_eq_of_lt v.isLt
  rw [messageSound_iff, hlen, frameMessage_eq, List.drop_left, List.take_left, beVal_beBytes, hcrc]

/-- The body stands behind the four header bytes. -/
theorem frameMessage_body (type : Byte) (version : Version) (body : List Byte) :
    ((frameMessage type version body).drop 4).take body.length = body := by
  have h : (frameMessage type version body).drop 4 = body ++ beBytes 4 (crc32 (coveredBytes type version body)).toNat := rfl
  rw [h, List.take_left]

/-! ### A cell the part builds (R111, R203) -/

theorem buildCell_len (tag : Tag) (seq : Seq) (u : Bool) {body : List Byte} (h : body.length ≤ 122) :
    (buildCell tag seq u body).hdr.len.toNat = body.length := by
  simp only [buildCell, BitVec.toNat_ofNat]
  omega

theorem buildCell_payload (tag : Tag) (seq : Seq) (u : Bool) {body : List Byte} (h : body.length ≤ 122) :
    (buildCell tag seq u body).payload.take (buildCell tag seq u body).hdr.len.toNat = body := by
  rw [buildCell_len tag seq u h]
  exact List.take_left

/-! ### The message as it is handed over (R78, R112) -/

/-- A message of a slot's data, handed to a context cell by cell. -/
structure HandedMessage where
  context : Fin 8
  slot : SlotData
  body : List Byte
  source : Tag
  arrival : Nat → Lt

namespace HandedMessage

variable (e : HandedMessage) (n : Nat)

/-- Its bytes, framed. -/
def bytes : List Byte := frameMessage e.slot.type e.slot.version e.body

/-- The bytes of its `n`-th cell. -/
def chunk : List Byte := (e.bytes.drop (122 * n)).take 122

/-- Its `n`-th hand-off. -/
def handoff : Handoff :=
  ⟨e.context, buildCell e.slot.outTag (e.slot.outSeq + BitVec.ofNat 6 n) (decide (n = 0)) (e.chunk n), e.source, e.arrival n, false⟩

/-- The partial message before its `n`-th cell. -/
def partialAt (deadline : Lt) : Partial :=
  ⟨e.source, e.slot.type, e.slot.version, e.body.length, e.bytes.take (122 * n), e.arrival 0, deadline⟩

/-- Its hand-offs in order. -/
theorem handoffs_eq : (messageCells e.slot e.bytes).mapIdx (fun n c => CaptureItem.handoff ⟨e.context, c, e.source, e.arrival n, false⟩) =
    (List.range' 0 (messageCells e.slot e.bytes).length).map fun n => .handoff (e.handoff n) :=
  List.ext_getElem (by simp) fun n _ _ => by simp [messageCells, handoff, chunk]

theorem bytes_length : e.bytes.length = 8 + e.body.length := frameMessage_length _ _ _

theorem cells_length : (messageCells e.slot e.bytes).length = (e.bytes.length + 121) / 122 := by
  simp [messageCells, cellCount, Config.payloadBytes]

theorem chunk_length : (e.chunk n).length = min 122 (e.bytes.length - 122 * n) := by
  simp [chunk]

theorem handoff_len : (e.handoff n).cell.hdr.len.toNat = (e.chunk n).length :=
  buildCell_len _ _ _ (List.length_take_le _ _)

/-- A cell's bytes join those before it. -/
theorem held_append (deadline : Lt) : (e.partialAt n deadline).held ++ (e.handoff n).cell.payload.take (e.handoff n).cell.hdr.len.toNat =
    (e.partialAt (n + 1) deadline).held := by
  have hpayload : (e.handoff n).cell.payload.take (e.handoff n).cell.hdr.len.toNat = e.chunk n :=
    buildCell_payload _ _ _ (List.length_take_le _ _)
  rw [hpayload]
  exact List.take_add.symm

theorem stillToCome_partialAt (deadline : Lt) : stillToCome (e.partialAt n deadline) = e.bytes.length - 122 * n := by
  have hlen := e.bytes_length
  simp only [stillToCome, partialAt, List.length_take]
  omega

/-! ### The start cell (R82) -/

theorem chunk_zero : e.chunk 0 = e.slot.type :: e.slot.version.zeroExtend 8 :: BitVec.ofNat 8 (e.body.length / 256) ::
    BitVec.ofNat 8 e.body.length :: (e.bytes.drop 4).take 118 := by
  simp [chunk, bytes, frameMessage, beBytes]

theorem declaredLength_handoff (h : e.body.length ≤ 2040) : declaredLength (e.handoff 0) = e.body.length := by
  simp [declaredLength, handoff, buildCell, chunk_zero]
  omega

theorem soundStart_handoff (h : e.body.length ≤ 2040) : SoundStart (e.handoff 0) := by
  have hlen := e.bytes_length
  have hversion := e.slot.version.isLt
  refine ⟨⟨rfl, rfl⟩, ?_, ?_, ?_⟩
  · rw [handoff_len, chunk_length]
    omega
  · simp [handoff, buildCell, chunk_zero]
    omega
  · rw [e.declaredLength_handoff h]
    exact h

theorem startOf_handoff (s : State) (h : e.body.length ≤ 2040) : startOf s (e.handoff 0) =
    e.partialAt 0 (s.lt + BitVec.ofNat 48 (25000 * s.agent.settings.assemblyTimeout)) := by
  have htype : (e.handoff 0).cell.payload.getD 0 0 = e.slot.type := by simp [handoff, buildCell, chunk_zero]
  have hversion : ((e.handoff 0).cell.payload.getD 1 0).extractLsb' 0 5 = e.slot.version := by
    have hbyte : (e.handoff 0).cell.payload.getD 1 0 = e.slot.version.zeroExtend 8 := by simp [handoff, buildCell, chunk_zero]
    have hlt := e.slot.version.isLt
    rw [hbyte]
    exact BitVec.eq_of_toNat_eq (by simp; omega)
  rw [startOf, htype, hversion, e.declaredLength_handoff h]
  rfl

end HandedMessage

/-! ### The run (R82, R83, R85, R90) -/

theorem run_cons {t u : State} {c : Instr} {rest : List Instr} (k : Nat) (hp : t.pending = c :: rest)
    (he : exec c { t with pending := rest } = .next u) : Host.Core.run Sys2Proof.core (k + 1) t = Host.Core.run Sys2Proof.core k u := by
  have hstep : Sys2Proof.core.step t = .next u := by
    change step t = _
    simp only [step, hp]
    exact he
  simp only [Host.Core.run, hstep]

/-- The context delivers the message, into the lowest FREE record (R85, R90). -/
structure Delivers (t : State) (e : HandedMessage) (f : Filter) (r : Fin 4) : Prop where
  filter : t.capture.contexts[e.context].filter = some f
  type : f.type = none ∨ f.type = some e.slot.type
  version : f.mode = .any ∨ t.capture.contexts[e.context].lastVersion ≠ some e.slot.version
  free : t.capture.store[r] = none
  below : ∀ q : Fin 4, q < r → t.capture.store[q].isSome = true

/-- The state once the message is filed (R90). -/
def State.filed (t : State) (e : HandedMessage) (r : Fin 4) (items : List CaptureItem) (more : List Instr) : State :=
  { t with
    pending := more
    capture := { t.capture with
      input := items
      store := setAt t.capture.store r
        (some ⟨e.context, e.source, e.slot.type, e.slot.version, e.body, e.arrival 0, t.lt, t.agent.session.isSome⟩)
      filing := t.capture.filing ++ [r]
      contexts := setAt t.capture.contexts e.context { t.capture.contexts[e.context] with
        state := .armed, lastVersion := some e.slot.version
        counters := { t.capture.contexts[e.context].counters with
          delivered := Counter.inc t.capture.contexts[e.context].counters.delivered } } } }

/-- The state in which cells of the message have been taken and others have not. -/
def State.amid (t : State) (e : HandedMessage) (p : Partial) (items : List CaptureItem) (more : List Instr) : State :=
  { t with
    pending := more
    capture := { t.capture with
      input := items
      contexts := setAt t.capture.contexts e.context { t.capture.contexts[e.context] with state := .assembling p } } }

section

variable {t : State} {e : HandedMessage} {f : Filter} {r : Fin 4} {items rest : List CaptureItem} {more : List Instr} {deadline : Lt} {n : Nat}

theorem State.amid_context (t : State) (e : HandedMessage) (p : Partial) (items : List CaptureItem) (more : List Instr) :
    (t.amid e p items more).capture.contexts[e.context] = { t.capture.contexts[e.context] with state := .assembling p } := setAt_same _ _ _

theorem Delivers.amid (h : Delivers t e f r) (p : Partial) (items : List CaptureItem) (more : List Instr) :
    Delivers (t.amid e p items more) e f r where
  filter := by rw [State.amid_context]; exact h.filter
  type := h.type
  version := by rw [State.amid_context]; exact h.version
  free := h.free
  below := h.below

/-- What is filed does not depend on the cells taken before. -/
theorem State.filed_amid (p : Partial) (items' : List CaptureItem) (more' : List Instr) :
    (t.amid e p items' more').filed e r items more = t.filed e r items more := by
  simp only [State.filed, State.amid_context]
  simp only [State.amid, setAt_setAt]

/-- Before the last cell the context takes a whole cell and waits for more (R83). -/
theorem exec_handoff_goesOn (hi : t.capture.input = .handoff (e.handoff n) :: rest) (hp : t.pending = more)
    (ht : TakesInto t (e.handoff n) (e.partialAt n deadline)) (hn : 122 * (n + 1) < e.bytes.length) :
    exec .captureHandoff t = .next (t.amid e (e.partialAt (n + 1) deadline) rest more) := by
  have hlen : (e.handoff n).cell.hdr.len.toNat = 122 := by
    rw [e.handoff_len, e.chunk_length]
    omega
  have hshort : (e.handoff n).cell.hdr.len.toNat < stillToCome (e.partialAt n deadline) := by
    rw [hlen, e.stillToCome_partialAt]
    omega
  subst hp
  rw [exec_captureHandoff_takesInto hi ht, accountCell_goesOn hshort hlen, e.held_append]
  rfl

/-- The last cell completes the message, which is filed (R85, R90). -/
theorem exec_handoff_files (hd : Delivers t e f r) (hi : t.capture.input = .handoff (e.handoff n) :: rest) (hp : t.pending = more)
    (ht : TakesInto t (e.handoff n) (e.partialAt n deadline)) (hn : e.bytes.length ≤ 122 * (n + 1)) :
    exec .captureHandoff t = .next (t.filed e r rest more) := by
  have hlast : (e.handoff n).cell.hdr.len.toNat = stillToCome (e.partialAt n deadline) := by
    rw [e.handoff_len, e.chunk_length, e.stillToCome_partialAt]
    omega
  have hbytes : (e.partialAt (n + 1) deadline).held = e.bytes := List.take_of_length_le hn
  have hsound : messageSound (e.partialAt (n + 1) deadline).held = true := by
    rw [hbytes]
    exact messageSound_frameMessage _ _ _
  have hnew : ¬ (f.mode = .changed ∧ t.capture.contexts[e.context].lastVersion = some e.slot.version) := fun ⟨hm, hv⟩ =>
    hd.version.elim (fun h => by rw [h] at hm; cases hm) (fun h => h hv)
  have hrecord : (e.partialAt (n + 1) deadline).record e.context t.lt t.agent.session.isSome =
      ⟨e.context, e.source, e.slot.type, e.slot.version, e.body, e.arrival 0, t.lt, t.agent.session.isSome⟩ := by
    rw [Partial.record, hbytes]
    exact congrArg (fun body => Record.mk _ _ _ _ body _ _ _) (frameMessage_body _ _ _)
  have hfate : (t.awaiting rest).completeMessage e.context (e.partialAt (n + 1) deadline) = t.filed e r rest t.pending := by
    rw [completeMessage_passes (s := t.awaiting rest) hsound hd.filter hd.type]
    refine (if_neg hnew).trans ((fileMessage_files (s := t.awaiting rest) e.context _ hd.free hd.below).trans ?_)
    rw [State.filed, ← hrecord]
    rfl
  subst hp
  rw [exec_captureHandoff_takesInto hi ht, accountCell_completes hlast, ← hlast, e.held_append]
  exact congrArg Host.Outcome.next hfate

/-- As many steps as cells are left take the rest of the message. -/
theorem run_handoffs (k : Nat) (hd : Delivers t e f r) (hp : t.pending = List.replicate (k + 1) .captureHandoff ++ more)
    (hi : t.capture.input = (List.range' n (k + 1)).map (fun m => CaptureItem.handoff (e.handoff m)) ++ items)
    (ht : TakesInto t (e.handoff n) (e.partialAt n deadline)) (hk : (e.bytes.length + 121) / 122 = n + k + 1) :
    Host.Core.run Sys2Proof.core (k + 1) t = .next (t.filed e r items more) := by
  induction k generalizing t n with
  | zero =>
    exact run_cons 0 hp (exec_handoff_files (t := { t with pending := more }) ⟨hd.filter, hd.type, hd.version, hd.free, hd.below⟩ hi rfl ht
      (by omega))
  | succ k ih =>
    have hexec := exec_handoff_goesOn (t := { t with pending := List.replicate (k + 1) .captureHandoff ++ more })
      (more := List.replicate (k + 1) .captureHandoff ++ more) hi rfl ht (by omega)
    have hnext : TakesInto (t.amid e (e.partialAt (n + 1) deadline) ((List.range' (n + 1) (k + 1)).map
        (fun m => CaptureItem.handoff (e.handoff m)) ++ items) (List.replicate (k + 1) .captureHandoff ++ more))
        (e.handoff (n + 1)) (e.partialAt (n + 1) deadline) :=
      .inr ⟨congrArg Context.state (State.amid_context t e _ _ _), rfl, rfl, rfl, rfl⟩
    rw [run_cons (k + 1) hp hexec]
    exact (ih (hd.amid _ _ _) rfl rfl hnext (by omega)).trans (congrArg Host.Outcome.next (State.filed_amid _ _ _))

end

end Sys2Proof.Machine

namespace Sys2Proof.Proofs

open Sys2Proof.Machine Sys2Proof.Safety

/-- Settles O7: the first cell starts the message, each but the last goes on, and the last completes it with its check in agreement. -/
theorem captureReadsBackEmission : Obligations.CaptureReadsBackEmission := by
  unfold Obligations.CaptureReadsBackEmission
  intro s i r d body source arrival items more f hbody hstate hfilter htype hversion hfree hbelow cells hi hp
  let e : HandedMessage := ⟨i, d, body, source, arrival⟩
  have hcount : cells.length = (e.bytes.length + 121) / 122 := e.cells_length
  have hlen := e.bytes_length
  obtain ⟨k, hk⟩ : ∃ k, cells.length = k + 1 := ⟨cells.length - 1, by omega⟩
  have hstart : TakesInto s (e.handoff 0) (e.partialAt 0 (s.lt + BitVec.ofNat 48 (25000 * s.agent.settings.assemblyTimeout))) :=
    .inl ⟨hstate, e.soundStart_handoff hbody, (e.startOf_handoff s hbody).symm⟩
  have hinput : s.capture.input = (List.range' 0 (k + 1)).map (fun n => CaptureItem.handoff (e.handoff n)) ++ items := by
    rw [hi, ← hk]
    exact congrArg (· ++ items) e.handoffs_eq
  rw [hk] at hp ⊢
  refine (run_handoffs k ⟨hfilter, htype, hversion, hfree, hbelow⟩ hp hinput hstart (by omega)).trans ?_
  simp only [State.filed, e, ← hstate]

end Sys2Proof.Proofs
end

section
/-! PROOF. Every step keeps the carousel sound, its pending images in canonical form (O57). -/

namespace Sys2Proof.Machine

open Sys2Proof.Safety

/-! ### The invariant, part by part (R99, R107, R108) -/

/-- The state that a slot is in; none is EMPTY (R99). -/
def Carousel.runAt (c : Carousel) (i : Fin 16) : Option SlotRun := c.slots[i].map SlotData.run

/-- Every slot that is not EMPTY is legal. -/
def SlotsLegal (slots : Vector (Option SlotData) 16) : Prop := ∀ (i : Fin 16) d, slots[i] = some d → SlotLegal d

/-- The slots, the emission and the due list agree. A free engine may still have a choice to make, so that its due list need not be empty. -/
structure Carousel.Agrees (c : Carousel) : Prop where
  legal : SlotsLegal c.slots
  emitting : ∀ e, c.emission = some e →
    e.placed < cellCount e.message.length ∧ ∃ run, c.runAt e.slot = some run ∧ run.assigns = true
  stopping : ∀ i, c.runAt i = some .stopping → ∃ e, c.emission = some e ∧ e.slot = i
  once : c.due.Nodup
  running : ∀ i ∈ c.due, c.runAt i = some .running

theorem Carousel.runAt_eq_some {c : Carousel} {i : Fin 16} {run : SlotRun} :
    c.runAt i = some run ↔ ∃ d, c.slots[i] = some d ∧ d.run = run := Option.map_eq_some_iff

theorem Carousel.runAt_of_slot {c : Carousel} {i : Fin 16} {d : SlotData} (hd : c.slots[i] = some d) : c.runAt i = some d.run :=
  Carousel.runAt_eq_some.mpr ⟨d, hd, rfl⟩

/-- The invariant: the carousel agrees, and a free engine has nothing left to choose. -/
theorem carouselSound_iff (s : State) :
    CarouselSound s ↔ s.carousel.Agrees ∧ (s.carousel.emission = none → s.carousel.due = []) := by
  constructor
  · rintro ⟨legal, emitting, stopping, once, running, idle⟩
    refine ⟨⟨legal, fun e he => ?_, fun i hi => ?_, once, fun i hi => Carousel.runAt_eq_some.mpr (running i hi)⟩, idle⟩
    · obtain ⟨hplaced, d, hd, hrun⟩ := emitting e he
      exact ⟨hplaced, d.run, Carousel.runAt_of_slot hd, hrun⟩
    · obtain ⟨d, hd, hrun⟩ := Carousel.runAt_eq_some.mp hi
      exact stopping i d hd hrun
  · rintro ⟨⟨legal, emitting, stopping, once, running⟩, idle⟩
    refine ⟨legal, fun e he => ?_, fun i d hd hrun => ?_, once, fun i hi => Carousel.runAt_eq_some.mp (running i hi), idle⟩
    · obtain ⟨hplaced, run, hrun, hassigns⟩ := emitting e he
      obtain ⟨d, hd, rfl⟩ := Carousel.runAt_eq_some.mp hrun
      exact ⟨hplaced, d, hd, hassigns⟩
    · exact stopping i (hrun ▸ Carousel.runAt_of_slot hd)

/-- The invariant reads the carousel alone. -/
theorem carouselSound_congr {s t : State} (h : CarouselSound s) (ht : t.carousel = s.carousel) : CarouselSound t := by
  rwa [CarouselSound, ht]

/-! ### One slot replaced -/

theorem SlotsLegal.setAt {slots : Vector (Option SlotData) 16} (h : SlotsLegal slots) (i : Fin 16) {o : Option SlotData}
    (ho : ∀ d, o = some d → SlotLegal d) : SlotsLegal (setAt slots i o) := by
  intro j d hd
  by_cases hj : j = i
  · subst hj
    exact ho d ((setAt_same _ _ _).symm.trans hd)
  · exact h j d ((setAt_other _ _ _ _ hj).symm.trans hd)

theorem SlotsLegal.setSome {slots : Vector (Option SlotData) 16} (h : SlotsLegal slots) (i : Fin 16) {d : SlotData} (hd : SlotLegal d) :
    SlotsLegal (Machine.setAt slots i (some d)) :=
  h.setAt i fun _ he => Option.some.inj he ▸ hd

/-- The state of each slot once one slot is replaced. -/
theorem Carousel.runAt_setAt (c : Carousel) (i j : Fin 16) (o : Option SlotData) (due : List (Fin 16)) (e : Option Emission) :
    (Carousel.mk (setAt c.slots i o) due e).runAt j = if j = i then o.map SlotData.run else c.runAt j := by
  unfold Carousel.runAt
  split_ifs with hj
  · subst hj
    rw [setAt_same]
  · rw [setAt_other _ _ _ _ hj]

/-- Slots that are all legal and in the states they were in agree with the same emission and due list. -/
theorem Carousel.Agrees.of_runs {c c' : Carousel} (h : c.Agrees) (legal : SlotsLegal c'.slots) (runs : ∀ i, c'.runAt i = c.runAt i)
    (due : c'.due = c.due) (emission : c'.emission = c.emission) : c'.Agrees where
  legal := legal
  emitting e he := by
    rw [runs]
    exact h.emitting e (emission ▸ he)
  stopping i hi := by
    rw [emission]
    exact h.stopping i (runs i ▸ hi)
  once := due ▸ h.once
  running i hi := (runs i).trans (h.running i (due ▸ hi))

/-- A slot replaced by a legal one in the same state. -/
theorem Carousel.Agrees.setSlot {c : Carousel} (h : c.Agrees) {i : Fin 16} {d d' : SlotData} (hd : c.slots[i] = some d)
    (legal : SlotLegal d') (run : d'.run = d.run) : ({ c with slots := setAt c.slots i (some d') } : Carousel).Agrees := by
  refine h.of_runs (h.legal.setSome i legal) (fun j => ?_) rfl rfl
  rw [Carousel.runAt_setAt]
  split_ifs with hj
  · rw [hj, Carousel.runAt_of_slot hd, ← run]
    rfl
  · rfl

theorem carouselSound_setSlot {s t : State} (h : CarouselSound s) {i : Fin 16} {d d' : SlotData} (hd : s.carousel.slots[i] = some d)
    (legal : SlotLegal d') (run : d'.run = d.run)
    (ht : t.carousel = { s.carousel with slots := setAt s.carousel.slots i (some d') }) : CarouselSound t := by
  obtain ⟨agrees, idle⟩ := (carouselSound_iff s).mp h
  rw [carouselSound_iff, ht]
  exact ⟨agrees.setSlot hd legal run, idle⟩

/-- A slot that is EMPTY or DEFINED is neither emitted nor on the due list, so that it may become EMPTY or DEFINED. -/
theorem carouselSound_setIdle {s : State} (h : CarouselSound s) {i : Fin 16} {o : Option SlotData}
    (before : ∀ run, s.carousel.runAt i = some run → run = .defined) (after : ∀ d, o = some d → SlotLegal d ∧ d.run = .defined) :
    CarouselSound (s.setSlot i o) := by
  obtain ⟨agrees, idle⟩ := (carouselSound_iff s).mp h
  rw [carouselSound_iff, State.setSlot_carousel]
  have other {j : Fin 16} {run : SlotRun} (hj : s.carousel.runAt j = some run) (hrun : run ≠ .defined) : j ≠ i := by
    rintro rfl
    exact hrun (before run hj)
  refine ⟨⟨agrees.legal.setAt i fun d hd => (after d hd).1, fun e he => ?_, fun j hj => ?_, agrees.once, fun j hj => ?_⟩, idle⟩
  · obtain ⟨hplaced, run, hrun, hassigns⟩ := agrees.emitting e he
    have hne : e.slot ≠ i := other hrun (by rintro rfl; cases hassigns)
    exact ⟨hplaced, run, by rw [Carousel.runAt_setAt, if_neg hne]; exact hrun, hassigns⟩
  · rw [Carousel.runAt_setAt] at hj
    split_ifs at hj
    · obtain ⟨d, hd, hrun⟩ := Option.map_eq_some_iff.mp hj
      cases hrun.symm.trans (after d hd).2
    · exact agrees.stopping j hj
  · have hrun := agrees.running j hj
    rw [Carousel.runAt_setAt, if_neg (other hrun nofun)]
    exact hrun

/-! ### The choice and the start of an emission (R108 to R111) -/

/-- A framed message has a cell to place. -/
theorem cellCount_frameMessage_pos (type : Byte) (version : Version) (body : List Byte) :
    0 < cellCount (frameMessage type version body).length := by
  rw [frameMessage_length, cellCount]
  exact Nat.div_pos (by simp only [Config.payloadBytes]; omega) (by decide)

/-- A pending image that is taken becomes a current image of the published length (R103, R109). -/
theorem slotLegal_takePending {d : SlotData} (h : SlotLegal d) : SlotLegal d.takePending := by
  unfold SlotData.takePending
  split
  · obtain ⟨tag, low, high, wf, offsets, len, -⟩ := h
    refine ⟨tag, low, high, wf, offsets, len, fun body hb => ?_⟩
    cases hb
    exact (Memory.readAll_length _ _ _).trans_le len
  · exact h

/-- A start changes the emitting slot and begins the emission (R109 to R111). -/
theorem State.startEmission_carousel (s : State) (i : Fin 16) (d d' : SlotData) (body : List Byte) :
    (s.startEmission i d d' body).carousel = { s.carousel with
      slots := setAt s.carousel.slots i (some { d' with
        nextDue := d.advanceDue s.lt
        lateEvents := if 2 ≤ d.elapsed s.lt then Counter.inc d'.lateEvents else d'.lateEvents })
      emission := some ⟨i, frameMessage d'.type d'.version body, 0⟩ } := by
  by_cases h : 2 ≤ d.elapsed s.lt <;> simp [State.startEmission, h]

/-- The carousel of a free engine that chooses among the RUNNING slots `is`. -/
structure Carousel.ChoosesFrom (c : Carousel) (is : List (Fin 16)) : Prop where
  legal : SlotsLegal c.slots
  free : c.emission = none
  noneStopping : ∀ i, c.runAt i ≠ some .stopping
  once : is.Nodup
  running : ∀ i ∈ is, c.runAt i = some .running

/-- The choice among the other slots, once the first is passed over. -/
theorem Carousel.ChoosesFrom.passed {c : Carousel} {i : Fin 16} {is : List (Fin 16)} (h : c.ChoosesFrom (i :: is)) {d d' : SlotData}
    (hd : c.slots[i] = some d) (legal : SlotLegal d') (run : d'.run = d.run) :
    ({ c with slots := setAt c.slots i (some d') } : Carousel).ChoosesFrom is := by
  have runs (j : Fin 16) : ({ c with slots := setAt c.slots i (some d') } : Carousel).runAt j = c.runAt j := by
    rw [Carousel.runAt_setAt]
    split_ifs with hj
    · rw [hj, Carousel.runAt_of_slot hd, ← run]
      rfl
    · rfl
  exact ⟨h.legal.setSome i legal, h.free, fun j => by rw [runs]; exact h.noneStopping j, (List.nodup_cons.mp h.once).2,
    fun j hj => (runs j).trans (h.running j (List.mem_cons_of_mem i hj))⟩

/-- The emission of the first slot leaves the others waiting. -/
theorem Carousel.ChoosesFrom.started {c : Carousel} {i : Fin 16} {is : List (Fin 16)} (h : c.ChoosesFrom (i :: is)) {d' : SlotData}
    (legal : SlotLegal d') (run : d'.run = .running) {message : List Byte} (hm : 0 < cellCount message.length) :
    (Carousel.mk (setAt c.slots i (some d')) is (some ⟨i, message, 0⟩)).Agrees where
  legal := h.legal.setSome i legal
  emitting e he := by
    cases he
    exact ⟨hm, .running, by rw [Carousel.runAt_setAt, if_pos rfl, Option.map_some, run], rfl⟩
  stopping j hj := by
    rw [Carousel.runAt_setAt] at hj
    split_ifs at hj with hji
    · exact ⟨_, rfl, hji.symm⟩
    · exact absurd hj (h.noneStopping j)
  once := (List.nodup_cons.mp h.once).2
  running j hj := by
    rw [Carousel.runAt_setAt]
    split_ifs
    · exact congrArg some run
    · exact h.running j (List.mem_cons_of_mem i hj)

/-- A choice leaves the carousel sound: an emission has started and the other slots wait, or no slot had an image. -/
theorem carouselSound_chooseFrom {is : List (Fin 16)} {s : State} (h : s.carousel.ChoosesFrom is) :
    CarouselSound (State.chooseFrom is s) := by
  induction is generalizing s with
  | nil =>
    refine (carouselSound_iff _).mpr ⟨⟨h.legal, fun e he => ?_, fun i hi => absurd hi (h.noneStopping i), .nil, nofun⟩, fun _ => rfl⟩
    cases h.free.symm.trans he
  | cons i is ih =>
    obtain ⟨d, hd, hrun⟩ := Carousel.runAt_eq_some.mp (h.running i List.mem_cons_self)
    have legal : SlotLegal d.takePending := slotLegal_takePending (h.legal i d hd)
    rw [State.chooseFrom]
    simp only [hd]
    split
    · exact ih (h.passed (d' := { d.takePending with nextDue := d.advanceDue s.lt }) hd legal (by simp))
    · rw [carouselSound_iff, State.startEmission_carousel]
      exact ⟨h.started (d' := { d.takePending with
        nextDue := d.advanceDue s.lt
        lateEvents := if 2 ≤ d.elapsed s.lt then Counter.inc d.takePending.lateEvents else d.takePending.lateEvents })
        legal (by simp [hrun]) (cellCount_frameMessage_pos _ _ _), nofun⟩

/-- The engine's choice makes a carousel that agrees sound (R108). -/
theorem carouselSound_choose {s : State} (h : s.carousel.Agrees) : CarouselSound s.choose := by
  cases he : s.carousel.emission with
  | some e =>
    rw [s.choose_busy e he]
    exact (carouselSound_iff s).mpr ⟨h, fun hn => absurd (he.symm.trans hn) nofun⟩
  | none =>
    have sorted := s.carousel.sortDue_perm s.lt s.carousel.due
    simp only [State.choose, he]
    refine carouselSound_chooseFrom ⟨h.legal, he, fun i hi => ?_, sorted.nodup_iff.mpr h.once,
      fun i hi => h.running i (sorted.mem_iff.mp hi)⟩
    obtain ⟨e, hemission, -⟩ := h.stopping i hi
    cases he.symm.trans hemission

/-- A RUNNING slot may join the due list (R107). -/
theorem Carousel.Agrees.joinDue {s : State} (h : s.carousel.Agrees) {i : Fin 16} (hi : s.carousel.runAt i = some .running) :
    (s.joinDue i).carousel.Agrees := by
  unfold State.joinDue
  split_ifs with hmem
  · exact h
  · have sorted := s.carousel.sortDue_perm s.lt (i :: s.carousel.due)
    refine { h with once := sorted.nodup_iff.mpr (List.nodup_cons.mpr ⟨hmem, h.once⟩), running := fun j hj => ?_ }
    rcases List.mem_cons.mp (sorted.mem_iff.mp hj) with rfl | hj
    · exact hi
    · exact h.running j hj

/-! ### The engine's own steps (R107, R112, R113) -/

theorem execSlotDue_carouselSound (i : Fin 16) {s : State} (h : CarouselSound s) : Ensures CarouselSound (execSlotDue i s) := by
  unfold execSlotDue
  split
  · exact (ensures_next _ _).mpr h
  · next d hd =>
    split_ifs with hdue
    · have running : s.carousel.runAt i = some .running := hdue.1 ▸ Carousel.runAt_of_slot hd
      exact (ensures_next _ _).mpr (carouselSound_choose (((carouselSound_iff s).mp h).1.joinDue running))
    · exact (ensures_next _ _).mpr h

/-- An emission's end leaves its slot DEFINED if it was STOPPING, else in RUNNING (R113). -/
theorem SlotData.endEmission_run (d : SlotData) : d.endEmission.run = if d.run = .stopping then .defined else d.run := rfl

theorem Carousel.Agrees.endEmission {c : Carousel} (h : c.Agrees) {e : Emission} {d d' : SlotData} (he : c.emission = some e)
    (hd : c.slots[e.slot] = some d) (legal : SlotLegal d') (run : d'.run = if d.run = .stopping then .defined else d.run) :
    ({ c with slots := setAt c.slots e.slot (some d'), emission := none } : Carousel).Agrees where
  legal := h.legal.setSome e.slot legal
  emitting := nofun
  stopping j hj := by
    rw [Carousel.runAt_setAt] at hj
    split_ifs at hj with hje
    · rw [Option.map_some, run] at hj
      split_ifs at hj with hstop
      · cases hj
      · exact absurd (Option.some.inj hj) hstop
    · obtain ⟨e', he', rfl⟩ := h.stopping j hj
      cases he.symm.trans he'
      exact absurd rfl hje
  once := h.once
  running j hj := by
    have hrun := h.running j hj
    rw [Carousel.runAt_setAt]
    split_ifs with hje
    · rw [hje, Carousel.runAt_of_slot hd, Option.some.injEq] at hrun
      rw [Option.map_some, run, hrun]
      rfl
    · exact hrun

theorem execTableCellPlacement_carouselSound {s : State} (h : CarouselSound s) : Ensures CarouselSound (execTableCellPlacement s) := by
  obtain ⟨agrees, idle⟩ := (carouselSound_iff s).mp h
  unfold execTableCellPlacement
  split
  · exact (ensures_next _ _).mpr h
  · next e he =>
    split
    · exact (ensures_next _ _).mpr h
    · next d hd =>
      have legal : SlotLegal d := agrees.legal e.slot d hd
      dsimp only
      split_ifs with hroom hmore
      · have placed := agrees.setSlot (d' := { d with outSeq := d.outSeq + 1 }) hd legal rfl
        refine (ensures_next _ _).mpr ((carouselSound_iff _).mpr ⟨{ placed with
          emitting := fun e' he' => ?_, stopping := fun i hi => ?_ }, nofun⟩)
        · cases he'
          exact ⟨hmore, (placed.emitting e he).2⟩
        · obtain ⟨e', he', hslot⟩ := placed.stopping i hi
          cases he.symm.trans he'
          exact ⟨_, rfl, hslot⟩
      · have ended := agrees.endEmission (d' := { d with outSeq := d.outSeq + 1 }.endEmission) he hd legal rfl
        exact (ensures_next _ _).mpr (carouselSound_choose ended)
      · exact (ensures_next _ _).mpr h

/-! ### Resets and restarts (R117, R118) -/

theorem slotLegal_warm {d : SlotData} (h : SlotLegal d) (lt : Lt) : SlotLegal (d.warm lt) := by
  unfold SlotData.warm
  split <;> exact h

theorem SlotData.warm_run_ne_stopping (d : SlotData) (lt : Lt) : (d.warm lt).run ≠ .stopping := by
  unfold SlotData.warm
  split
  · next hr => simp [hr]
  · next hr => simp [hr]
  · nofun

/-- At a WARM restart no slot is STOPPING, and the RUNNING slots are the due list. -/
theorem carousel_warm_agrees {s : State} (h : SlotsLegal s.carousel.slots) : s.warm.carousel.Agrees := by
  refine ⟨fun i d hd => ?_, nofun, fun i hi => ?_, ?_, fun i hi => ?_⟩
  · obtain ⟨y, hy, rfl⟩ := Option.map_eq_some_iff.mp ((warm_slot s i).symm.trans hd)
    exact slotLegal_warm (h i y hy) s.lt
  · obtain ⟨d, hd, hrun⟩ := Carousel.runAt_eq_some.mp hi
    obtain ⟨y, -, rfl⟩ := Option.map_eq_some_iff.mp ((warm_slot s i).symm.trans hd)
    exact absurd hrun (y.warm_run_ne_stopping s.lt)
  · rw [warm_due]
    exact runningSlots_nodup s
  · rw [warm_due] at hi
    obtain ⟨d, hd, hrun⟩ := mem_runningSlots.mp hi
    exact Carousel.runAt_eq_some.mpr ⟨_, warm_slot_running hd hrun, hrun⟩

theorem execWarmRestart_carouselSound {s : State} (h : CarouselSound s) : Ensures CarouselSound (execWarmRestart s) := by
  unfold execWarmRestart
  split_ifs
  · exact (ensures_next _ _).mpr (carouselSound_choose (carousel_warm_agrees ((carouselSound_iff s).mp h).1.legal))
  · exact (ensures_next _ _).mpr h

theorem execColdRestart_carouselSound {s : State} (h : CarouselSound s) : Ensures CarouselSound (execColdRestart s) := by
  unfold execColdRestart
  split_ifs
  · exact (ensures_next _ _).mpr (carouselSound_congr carouselSound_reset rfl)
  · exact (ensures_next _ _).mpr h

/-! ### The carousel commands (R101 to R106, R116) -/

theorem agentKeeps_carouselSound : AgentKeeps CarouselSound where
  unqueued _ _ h := h
  endSession _ h := h
  replyOutside _ _ _ h := h
  answerRepeat _ _ _ h := h
  advanceExpected _ h := h
  settle _ _ _ _ _ h := h

/-- The tag and the interval that SLOT_DEFINE parses are in their ranges (R190). -/
theorem slotDefineArgs_inRange {bs : List Byte} {x : SlotDefineArgs} (h : slotDefineArgs bs = .ok x) :
    x.outTag ≠ 0 ∧ 10 ≤ x.interval ∧ x.interval ≤ 10000 := by
  unfold slotDefineArgs at h
  obtain ⟨⟨slot, b1⟩, -, h⟩ := except_bind_ok h
  obtain ⟨⟨tag, b2⟩, htag, h⟩ := except_bind_ok h
  obtain ⟨⟨type, b3⟩, -, h⟩ := except_bind_ok h
  obtain ⟨⟨version, b4⟩, -, h⟩ := except_bind_ok h
  obtain ⟨⟨interval, b5⟩, hinterval, h⟩ := except_bind_ok h
  cases h
  exact ⟨readTag_ne_zero (argument_eq_ok htag), readRange_eq_some (argument_eq_ok hinterval)⟩

theorem slotDefineRequest_carouselSound : RequestKeeps CarouselSound slotDefineRequest where
  act c x s h _ hp := by
    obtain ⟨htag, hlow, hhigh⟩ := slotDefineArgs_inRange hp
    simp only [slotDefineRequest]
    split
    · next hempty =>
      refine carouselSound_setIdle h (fun run hrun => ?_) fun d hd => ?_
      · obtain ⟨d, hd, -⟩ := Carousel.runAt_eq_some.mp hrun
        cases hempty.symm.trans hd
      · cases hd
        exact ⟨⟨htag, hlow, hhigh, rfl, nofun, Nat.zero_le _, nofun⟩, rfl⟩
    · next d hd =>
      split_ifs with hrun
      · obtain ⟨-, -, -, wf, offsets, len, body⟩ := ((carouselSound_iff s).mp h).1.legal x.slot d hd
        exact carouselSound_setSlot h hd (d' := d.redefine x) ⟨htag, hlow, hhigh, wf, offsets, len, body⟩ rfl rfl
      · exact h
  after _ h := h

/-- The bytes that SLOT_WRITE parses end within the pending image (R191). -/
theorem slotWriteArgs_inRange {bs bytes : List Byte} {i : Fin 16} {offset : Nat} (h : slotWriteArgs bs = .ok (i, offset, bytes)) :
    offset + bytes.length ≤ 2040 := by
  unfold slotWriteArgs at h
  obtain ⟨⟨slot, b1⟩, -, h⟩ := except_bind_ok h
  obtain ⟨⟨off, b2⟩, -, h⟩ := except_bind_ok h
  obtain ⟨⟨count, b3⟩, -, h⟩ := except_bind_ok h
  obtain ⟨u, hfits, h⟩ := except_bind_ok h
  obtain ⟨⟨bytes, b4⟩, hbytes, h⟩ := except_bind_ok h
  cases h
  have fits : offset + count ≤ 2040 := of_decide_eq_true (constraint_eq_ok hfits)
  have taken := argument_eq_ok hbytes
  unfold readBytes at taken
  split_ifs at taken
  cases taken
  have := List.length_take_le count b3
  omega

theorem slotWriteRequest_carouselSound : RequestKeeps CarouselSound slotWriteRequest where
  act c x s h _ hp := by
    simp only [slotWriteRequest]
    split
    · exact h
    · next d hd =>
      obtain ⟨tag, low, high, wf, offsets, len, body⟩ := ((carouselSound_iff s).mp h).1.legal x.1 d hd
      have fits : x.2.1 + x.2.2.length ≤ 2040 := slotWriteArgs_inRange hp
      have written (m : Host.Cell) (hm : m ∈ Memory.writeAll d.pendingBytes x.2.1 x.2.2) : m.1 < 2040 := by
        rcases Memory.mem_writeAll _ _ _ _ hm with hm | hm
        · omega
        · exact offsets m hm
      exact carouselSound_setSlot h hd
        (d' := { d with pendingBytes := Memory.writeAll d.pendingBytes x.2.1 x.2.2, published := false })
        ⟨tag, low, high, Memory.wf_writeAll _ _ _ wf, written, len, body⟩ rfl rfl
  after _ h := h

/-- The length that SLOT_PUBLISH parses is at most that of a body (R192). -/
theorem slotPublishArgs_inRange {bs : List Byte} {y : Fin 16 × Nat × Bool}
    (h : threeArgs (readIndex 16) (readRange 2 0 2040) readFlag bs = .ok y) : y.2.1 ≤ 2040 := by
  unfold threeArgs at h
  obtain ⟨⟨slot, b1⟩, -, h⟩ := except_bind_ok h
  obtain ⟨⟨length, b2⟩, hlength, h⟩ := except_bind_ok h
  obtain ⟨⟨bump, b3⟩, -, h⟩ := except_bind_ok h
  cases h
  exact (readRange_eq_some (argument_eq_ok hlength)).2

theorem slotPublishRequest_carouselSound : RequestKeeps CarouselSound slotPublishRequest where
  act c x s h _ hp := by
    simp only [slotPublishRequest]
    split
    · exact h
    · next d hd =>
      obtain ⟨tag, low, high, wf, offsets, -, body⟩ := ((carouselSound_iff s).mp h).1.legal x.1 d hd
      exact carouselSound_setSlot h hd (d' := { d with pendingLen := x.2.1, published := true, bump := x.2.2 })
        ⟨tag, low, high, wf, offsets, slotPublishArgs_inRange hp, body⟩ rfl rfl
  after _ h := h

/-- Any slot may become RUNNING: a RUNNING slot may be emitted, and may wait on the due list (R104). -/
theorem Carousel.Agrees.start {c : Carousel} (h : c.Agrees) (i : Fin 16) {d' : SlotData} (legal : SlotLegal d') (run : d'.run = .running) :
    ({ c with slots := setAt c.slots i (some d') } : Carousel).Agrees where
  legal := h.legal.setSome i legal
  emitting e he := by
    obtain ⟨hplaced, run', hrun', hassigns⟩ := h.emitting e he
    refine ⟨hplaced, ?_⟩
    rw [Carousel.runAt_setAt]
    split_ifs
    · exact ⟨.running, congrArg some run, rfl⟩
    · exact ⟨run', hrun', hassigns⟩
  stopping j hj := by
    rw [Carousel.runAt_setAt] at hj
    split_ifs at hj
    · rw [Option.map_some, run] at hj
      cases hj
    · exact h.stopping j hj
  once := h.once
  running j hj := by
    rw [Carousel.runAt_setAt]
    split_ifs
    · exact congrArg some run
    · exact h.running j hj

theorem carouselSound_startSlot {s : State} (h : CarouselSound s) {i : Fin 16} {d : SlotData} (hd : s.carousel.slots[i] = some d) :
    CarouselSound (s.startSlot i d) := by
  have agrees := ((carouselSound_iff s).mp h).1
  have started := agrees.start i (d' := { d with run := .running, nextDue := s.lt }) (agrees.legal i d hd) rfl
  refine carouselSound_choose (Carousel.Agrees.joinDue (s := s.setSlot i _) started ?_)
  exact Carousel.runAt_eq_some.mpr ⟨_, setAt_same _ _ _, rfl⟩

theorem slotStartRequest_carouselSound : RequestKeeps CarouselSound slotStartRequest where
  act c i s h _ _ := by
    simp only [slotStartRequest]
    split
    · exact h
    · next d hd =>
      split
      · exact h
      · exact h
      · split_ifs
        · exact h
        · split
          · exact h
          · exact carouselSound_startSlot h hd
  after _ h := h

/-- A RUNNING slot that stops leaves the due list; it becomes STOPPING exactly while its emission is in progress (R105, R107). -/
theorem carouselSound_stopSlot {s : State} (h : CarouselSound s) {i : Fin 16} {d : SlotData} (hd : s.carousel.slots[i] = some d) :
    CarouselSound (s.stopSlot i d) := by
  obtain ⟨agrees, idle⟩ := (carouselSound_iff s).mp h
  have runAt (j : Fin 16) : (s.stopSlot i d).carousel.runAt j = if j = i then some (s.carousel.stopped i) else s.carousel.runAt j :=
    Carousel.runAt_setAt _ _ _ _ _ _
  refine (carouselSound_iff _).mpr ⟨⟨agrees.legal.setSome i (agrees.legal i d hd), fun e he => ?_, fun j hj => ?_,
    agrees.once.filter _, fun j hj => ?_⟩, fun hfree => ?_⟩
  · obtain ⟨hplaced, hslot⟩ := agrees.emitting e he
    refine ⟨hplaced, ?_⟩
    rw [runAt]
    split_ifs with hi
    · have emits : s.carousel.emits i = true := by
        have he : s.carousel.emission = some e := he
        simp [Carousel.emits, he, hi]
      exact ⟨.stopping, by rw [Carousel.stopped, if_pos emits], rfl⟩
    · exact hslot
  · rw [runAt] at hj
    split_ifs at hj with hi
    · have emits : s.carousel.emits i = true := by
        by_contra hfree
        rw [Carousel.stopped, if_neg hfree] at hj
        cases hj
      obtain ⟨e, he, hslot⟩ := (Option.any_eq_true _ _).mp emits
      exact ⟨e, he, (eq_of_beq hslot).trans hi.symm⟩
    · exact agrees.stopping j hj
  · obtain ⟨hdue, hne⟩ := List.mem_filter.mp hj
    rw [runAt, if_neg (by simpa using hne)]
    exact agrees.running j hdue
  · exact congrArg (List.filter _) (idle hfree)

theorem slotStopRequest_carouselSound : RequestKeeps CarouselSound slotStopRequest where
  act c i s h _ _ := by
    simp only [slotStopRequest]
    split
    · exact h
    · next d hd =>
      split_ifs
      · exact carouselSound_stopSlot h hd
      · exact h
  after _ h := h

theorem slotClearRequest_carouselSound : RequestKeeps CarouselSound slotClearRequest where
  act c i s h _ _ := by
    simp only [slotClearRequest]
    split
    · exact h
    · next d hd =>
      split_ifs with hrun
      · refine carouselSound_setIdle h (fun run hr => ?_) nofun
        rw [Carousel.runAt_of_slot hd] at hr
        exact (Option.some.inj hr).symm.trans hrun
      · exact h
  after _ h := h

/-- Cleared counters are no change of a slot's state or fields (R116, R170). -/
theorem carouselSound_clearGroup {s : State} (h : CarouselSound s) (g : CounterGroup) : CarouselSound (clearGroup s g) := by
  cases g with
  | slots =>
    obtain ⟨agrees, idle⟩ := (carouselSound_iff s).mp h
    have slot (i : Fin 16) : (clearGroup s .slots).carousel.slots[i] = s.carousel.slots[i].map SlotData.clearCounters := mapAll_get _ _ i
    refine (carouselSound_iff _).mpr ⟨agrees.of_runs (fun i d hd => ?_) (fun i => ?_) rfl rfl, idle⟩
    · obtain ⟨y, hy, rfl⟩ := Option.map_eq_some_iff.mp ((slot i).symm.trans hd)
      exact agrees.legal i y hy
    · rw [Carousel.runAt, slot, Option.map_map]
      rfl
  | input | output | bankA | bankB | entry | contexts | agent => exact h

theorem countClearRequest_carouselSound : RequestKeeps CarouselSound countClearRequest where
  act c x s h _ _ := by
    simp only [countClearRequest]
    split
    · exact carouselSound_clearGroup h _
    · split
      · exact h
      · exact h
  after _ h := h

/-! ### The steps of the other blocks -/

/-- A request that leaves the carousel as it is. -/
theorem RequestKeeps.of_sameCarousel {α : Type} {r : Request α} (act : ∀ c y s, (r.act c y s).2.carousel = s.carousel)
    (after : ∀ s, (r.after s).carousel = s.carousel) : RequestKeeps CarouselSound r :=
  ⟨fun c y s h _ _ => carouselSound_congr h (act c y s), fun s h => carouselSound_congr h (after s)⟩

theorem editShadow_carousel (f : Bank → Answer × Bank) (s : State) : (editShadow f s).2.carousel = s.carousel := by
  unfold editShadow
  split <;> rfl

theorem editRequest_carouselSound {α : Type} {r : Request α} (edit : α → State → Bank → Answer × Bank)
    (act : ∀ c y s, r.act c y s = editShadow (edit y s) s) (after : r.after = id) : RequestKeeps CarouselSound r :=
  .of_sameCarousel (fun c y s => by rw [act]; exact editShadow_carousel _ s) fun s => by rw [after]; rfl

theorem mapReadRequest_carouselSound : RequestKeeps CarouselSound mapReadRequest :=
  .of_sameCarousel (fun c x s => by
    simp only [mapReadRequest]
    split <;> rfl) fun _ => rfl

theorem commitRequest_carouselSound : RequestKeeps CarouselSound commitRequest :=
  .of_sameCarousel (fun c due s => by
    simp only [commitRequest]
    split
    · unfold commitNow
      split
      · rfl
      · split <;> rfl
    · rfl) fun _ => rfl

theorem commitCancelRequest_carouselSound : RequestKeeps CarouselSound commitCancelRequest :=
  .of_sameCarousel (fun c _ s => by
    simp only [commitCancelRequest]
    split <;> rfl) fun _ => rfl

theorem ContextStep.carousel {s t : State} (h : ContextStep s t) : t.carousel = s.carousel := by
  obtain ⟨cs, rs, rfl⟩ := h
  rfl

theorem HandoffStep.carousel {s t : State} (h : HandoffStep s t) : t.carousel = s.carousel := by
  cases h with
  | contexts t h => exact h.carousel
  | filed r x cs rs => rfl

theorem ctxArmRequest_carouselSound : RequestKeeps CarouselSound ctxArmRequest :=
  .of_sameCarousel (fun _ x s => (ContextStep.arm s x.1 _).carousel) fun _ => rfl

theorem storeReleaseRequest_carouselSound : RequestKeeps CarouselSound storeReleaseRequest :=
  .of_sameCarousel (fun c i s => by
    simp only [storeReleaseRequest]
    split <;> rfl) fun _ => rfl

theorem pauseRequest_carouselSound : RequestKeeps CarouselSound pauseRequest :=
  .of_sameCarousel (fun c _ s => by
    simp only [pauseRequest]
    split
    · simp only [pauseNow]
      split
      · split_ifs <;> rfl
      · rfl
      · rfl
    · rfl) fun _ => rfl

theorem resumeRequest_carouselSound : RequestKeeps CarouselSound resumeRequest :=
  .of_sameCarousel (fun c _ s => by
    simp only [resumeRequest]
    split_ifs <;> rfl) fun _ => rfl

theorem tagsSetRequest_carouselSound : RequestKeeps CarouselSound tagsSetRequest :=
  .of_sameCarousel (fun c x s => by
    simp only [tagsSetRequest]
    split <;> rfl) fun _ => rfl

theorem execCommitDue_carousel (s : State) : Ensures (fun t => t.carousel = s.carousel) (execCommitDue s) := by
  unfold execCommitDue
  split
  · exact (ensures_next _ _).mpr rfl
  · split_ifs
    · split
      · exact (ensures_next _ _).mpr rfl
      · exact (ensures_next _ _).mpr rfl
    · exact (ensures_next _ _).mpr rfl

theorem execQueueEmptyEvent_carousel (s : State) : Ensures (fun t => t.carousel = s.carousel) (execQueueEmptyEvent s) := by
  unfold execQueueEmptyEvent
  split
  · exact (ensures_next _ _).mpr rfl
  · dsimp only
    split_ifs
    · exact (ensures_next _ _).mpr rfl
    · exact (ensures_next _ _).mpr rfl

theorem EventStep.carousel {s t : State} (h : EventStep s t) : t.carousel = s.carousel := by
  obtain ⟨k, e, rs, -, rfl⟩ := h
  rfl

theorem NoticeStep.carousel {s t : State} (h : NoticeStep s t) : t.carousel = s.carousel := by
  obtain rfl | ⟨-, mgmt, store, l, conds, seq, no, -, rfl⟩ := h
  · rfl
  · rfl

/-- Every command keeps the carousel sound. -/
theorem exec_carouselSound (i : Instr) {s : State} (h : CarouselSound s) : Ensures CarouselSound (exec i s) := by
  have agent := agentKeeps_carouselSound
  have same {t : State} {o : Host.Outcome State Fault Refusal} (ho : o = .next t) (ht : t.carousel = s.carousel) :
      Ensures CarouselSound o := ensures_of_eq ho (carouselSound_congr h ht)
  have command {α : Type} {r : Request α} (hr : RequestKeeps CarouselSound r) (code : Byte) :
      Ensures CarouselSound (.next (s.sessionCommand code r)) := agent.sessionCommand hr h code
  have edit {α : Type} {r : Request α} (f : α → State → Bank → Answer × Bank) (act : ∀ c y s, r.act c y s = editShadow (f y s) s)
      (after : r.after = id) (code : Byte) : Ensures CarouselSound (.next (s.sessionCommand code r)) :=
    command (editRequest_carouselSound f act after) code
  have answer {α : Type} {r : Request α} (act : ∀ c y s, (r.act c y s).2 = s) (after : r.after = id) (code : Byte) :
      Ensures CarouselSound (.next (s.sessionCommand code r)) := command (.of_answer act after) code
  cases i with
  | hardReset => exact ensures_of_eq rfl (carouselSound_congr carouselSound_reset rfl)
  | resetNRelease => exact same rfl rfl
  | headerExamination b arrival =>
    obtain ⟨line, items, rs, ht⟩ := execHeaderExamination_frame b arrival s
    exact same ht rfl
  | cellDelivery payload =>
    obtain ⟨line, items, ht⟩ := execCellDelivery_frame payload s
    exact same ht rfl
  | cellClassification =>
    obtain ⟨items, t, ht, offered, b, input, q, n, rs, -, rfl⟩ := execCellClassification_step s
    exact same ht rfl
  | mediaAdmission =>
    obtain ⟨offered, i, b, media, rs, -, -, ht⟩ := execMediaAdmission_frame s
    exact same ht rfl
  | captureHandoff =>
    obtain ⟨input, t, ht, hs⟩ := execCaptureHandoff_step s
    exact same ht hs.carousel
  | assemblyDeadlineReached ctx =>
    obtain ⟨t, ht, hs⟩ := execAssemblyDeadlineReached_step ctx s
    exact same ht hs.carousel
  | captureBindingUpdate =>
    obtain ⟨input, t, ht, hs⟩ := execCaptureBindingUpdate_step s
    exact same ht hs.carousel
  | syncLossCaptureAbandon =>
    obtain ⟨input, items, t, ht, hs⟩ := execSyncLossCaptureAbandon_step s
    exact same ht hs.carousel
  | syncLossResync =>
    obtain ⟨items, a, b, input, -, -, ht⟩ := execSyncLossResync_frame s
    exact same ht rfl
  | commitDue => exact fun t ht => same ht (execCommitDue_carousel s t ht) t ht
  | slotDecision =>
    obtain ⟨q, sched, rs, n, -, ht⟩ := execSlotDecision_frame s
    exact same ht rfl
  | queueEmptyEvent => exact fun t ht => same ht (execQueueEmptyEvent_carousel s t ht) t ht
  | slotDue slot => exact execSlotDue_carouselSound slot h
  | tableCellPlacement => exact execTableCellPlacement_carouselSound h
  | conditionEvent k =>
    obtain ⟨t, ht, hs⟩ := execConditionEvent_step k s
    exact same ht hs.carousel
  | lineCauseGone =>
    obtain ⟨t, ht, hs⟩ := execLineCauseGone_step s
    exact same ht hs.carousel
  | sessionExpiry => exact (ensures_next _ _).mpr (agent.endIfExpired h)
  | completionNotice =>
    obtain ⟨t, ht, hs⟩ := execCompletionNotice_step s
    exact same ht hs.carousel
  | captureReadyNotice =>
    obtain ⟨t, ht, hs⟩ := execCaptureReadyNotice_step s
    exact same ht hs.carousel
  | conditionNotice =>
    obtain ⟨t, ht, hs⟩ := execConditionNotice_step s
    exact same ht hs.carousel
  | warmRestart => exact execWarmRestart_carouselSound h
  | coldRestart => exact execColdRestart_carouselSound h
  | identify => exact agent.identify h
  | openSession => exact agent.openSession h (fun _ _ hu => hu) fun _ _ _ _ hu => hu
  | closeSession => exact command (.of_sameCarousel (fun _ _ _ => rfl) fun _ => rfl) _
  | ping => exact answer (fun _ _ _ => rfl) rfl _
  | status => exact answer (fun _ _ _ => rfl) rfl _
  | mapPut => exact edit (fun f s => putEntry f s.agent.cmdTag) (fun _ _ _ => rfl) rfl _
  | mapRemove => exact edit (fun t _ => removeEntry t) (fun _ _ _ => rfl) rfl _
  | mapClear => exact edit (fun _ _ => clearEdit) (fun _ _ _ => rfl) rfl _
  | mapCopy => exact edit (fun _ s => copyEdit s.map.activeBank) (fun _ _ _ => rfl) rfl _
  | mapDefault => exact edit (fun d _ => defaultEdit d) (fun _ _ _ => rfl) rfl _
  | mapRead => exact command mapReadRequest_carouselSound _
  | commit => exact command commitRequest_carouselSound _
  | commitCancel => exact command commitCancelRequest_carouselSound _
  | ctxArm => exact command ctxArmRequest_carouselSound _
  | ctxDisarm => exact command (.of_sameCarousel (fun _ _ _ => rfl) fun _ => rfl) _
  | storeRead => exact answer (fun _ _ _ => rfl) rfl _
  | storeRelease => exact command storeReleaseRequest_carouselSound _
  | slotDefine => exact command slotDefineRequest_carouselSound _
  | slotWrite => exact command slotWriteRequest_carouselSound _
  | slotPublish => exact command slotPublishRequest_carouselSound _
  | slotStart => exact command slotStartRequest_carouselSound _
  | slotStop => exact command slotStopRequest_carouselSound _
  | slotClear => exact command slotClearRequest_carouselSound _
  | slotQuery => exact answer (fun _ _ _ => rfl) rfl _
  | pause => exact command pauseRequest_carouselSound _
  | resume => exact command resumeRequest_carouselSound _
  | condRead => exact answer (fun _ _ _ => rfl) rfl _
  | condAck => exact command (.of_sameCarousel (fun _ _ _ => rfl) fun _ => rfl) _
  | countRead => exact answer (fun _ _ _ => rfl) rfl _
  | countClear => exact command countClearRequest_carouselSound _
  | configSet => exact command (.of_sameCarousel (fun _ _ _ => rfl) fun _ => rfl) _
  | configGet => exact answer (fun _ _ _ => rfl) rfl _
  | tagsSet => exact command tagsSetRequest_carouselSound _
  | restart => exact command (.of_sameCarousel (fun _ _ _ => rfl) fun _ => rfl) _
  | trefEdge =>
    obtain ⟨lt, line, ht⟩ := execTrefEdge_frame s
    exact same ht rfl
  | unknownCommand =>
    exact (ensures_next _ _).mpr
      (agent.commandStep (.of_answer (fun _ _ _ => rfl) rfl) h (s.sessionCommandOf_step _ unknownRequest))

end Sys2Proof.Machine

namespace Sys2Proof.Proofs

open Sys2Proof.Machine Sys2Proof.Safety

/-- Settles O57: a choice starts the emission of a RUNNING slot of the due list or empties the list, so that it makes a carousel sound whose
slots, emission and due list agree; they agree after every command that touches them, and what the commands parse keeps a slot's fields
in range. -/
theorem stepKeepsCarouselSound : Obligations.StepKeepsCarouselSound := by
  unfold Obligations.StepKeepsCarouselSound
  intro s t hs ht
  exact step_ensures hs (fun _ => hs) (fun i _ hu => exec_carouselSound i hu) t ht

end Sys2Proof.Proofs
end

section
/-! PROOF. SLOT_DUE, the next due LT, and the choice of the slot that has been due longest (O23 to O25). -/

namespace Sys2Proof.Machine

open Sys2Proof.Safety

/-! ### The next due LT (R20, R110) -/

/-- A time that is a while after a due time already reached is reached exactly if that while is over. -/
theorem reached_after_iff {lt due : Lt} {n : Nat} (h : reached lt due = true) (hn : n ≤ (lt - due).toNat + 2 ^ 47) :
    reached lt (due + BitVec.ofNat 48 n) = true ↔ n ≤ (lt - due).toNat := by
  simp only [reached, decide_eq_true_iff] at h ⊢
  bv_omega

/-- The intervals passed do not exceed the time since the due time, and one more does (R110). -/
theorem intervalsPassed_bounds (s : State) (d : SlotData) (h : 0 < d.interval) :
    dueFor s d < intervalsPassed s d * (25000 * d.interval)
      ∧ intervalsPassed s d * (25000 * d.interval) ≤ dueFor s d + 25000 * d.interval
      ∧ ∀ j, j < intervalsPassed s d → j * (25000 * d.interval) ≤ dueFor s d := by
  have hticks : 0 < 25000 * d.interval := by omega
  unfold intervalsPassed
  generalize 25000 * d.interval = ticks at hticks ⊢
  rw [Nat.add_mul, Nat.one_mul]
  exact ⟨Nat.lt_div_mul_add hticks, Nat.add_le_add_right (Nat.div_mul_le_self _ _) _,
    fun j hj => (Nat.le_div_iff_mul_le hticks).mp (Nat.le_of_lt_succ hj)⟩

/-! ### The choice (R108, R109) -/

/-- The choice does not read the due list that the slots come from. -/
theorem State.chooseFrom_due (is : List (Fin 16)) (s : State) (due : List (Fin 16)) :
    State.chooseFrom is { s with carousel := { s.carousel with due := due } } = State.chooseFrom is s := by
  induction is generalizing s with
  | nil => rfl
  | cons i is ih =>
    rw [State.chooseFrom, State.chooseFrom]
    cases s.carousel.slots[i] with
    | none => exact ih s
    | some d =>
      dsimp only
      cases d.takePending.current with
      | none => exact ih (s.setSlot i _)
      | some body => rfl

/-- A due list that already is what it is set to. -/
theorem State.setDue_self {s : State} {due : List (Fin 16)} (h : s.carousel.due = due) :
    { s with carousel := { s.carousel with due := due } } = s := by
  subst h
  rfl

/-- A slot with an image starts its emission, and the slots behind it wait (R109 to R111). -/
theorem State.chooseFrom_cons_starts {s : State} {i : Fin 16} {d : SlotData} (rest : List (Fin 16))
    (hd : s.carousel.slots[i] = some d) (hi : HasImage d) : State.chooseFrom (i :: rest) s =
      emissionStarted { s with carousel := { s.carousel with due := rest } } i d (intervalsPassed s d) := by
  have passed : d.elapsed s.lt = intervalsPassed s d := rfl
  rw [State.chooseFrom]
  simp only [hd, SlotData.takePending_current d hi, State.startEmission, passed, emissionStarted, SlotData.advanceDue,
    SlotData.intervalTicks, Config.timerUnit]
  by_cases late : 2 ≤ intervalsPassed s d <;> cases hp : d.published <;>
    simp [late, SlotData.takePending, hp, State.setSlot, State.report]

/-- A slot without an image only has its next due LT moved on (R109). -/
theorem State.chooseFrom_cons_moves {s : State} {i : Fin 16} {d : SlotData} (rest : List (Fin 16))
    (hd : s.carousel.slots[i] = some d) (hi : ¬ HasImage d) : State.chooseFrom (i :: rest) s =
      State.chooseFrom rest (withSlot s i (some { d with nextDue := d.advanceDue s.lt })) := by
  have noImage (y : SlotData) (hy : s.carousel.slots[i] = some y) : ¬ HasImage y := Option.some.inj (hd.symm.trans hy) ▸ hi
  rw [State.chooseFrom_cons_passed rest noImage, State.passOver, List.foldl_cons, List.foldl_nil, hd]
  rfl

/-- A slot due at least as long as every other stands first in the order of choice. -/
theorem Carousel.sortDue_first {c : Carousel} {lt : Lt} {is : List (Fin 16)} {i : Fin 16} (hi : i ∈ is)
    (first : ∀ j ∈ is, c.Before lt i j) : c.sortDue lt is = i :: c.sortDue lt (is.erase i) := by
  have others := c.sortDue_perm lt (is.erase i)
  refine c.sortDue_unique lt is _ ((others.cons i).trans (List.perm_cons_erase hi).symm) (List.pairwise_cons.mpr ⟨fun j hj => ?_,
    c.sortDue_sorted lt _⟩)
  exact first j (List.mem_of_mem_erase (others.mem_iff.mp hj))

/-- How long another slot has been due does not change with a slot replaced. -/
theorem Carousel.age_setAt (c : Carousel) (lt : Lt) {i j : Fin 16} (o : Option SlotData) (due : List (Fin 16)) (h : j ≠ i) :
    (Carousel.mk (setAt c.slots i o) due c.emission).age lt j = c.age lt j := by
  unfold Carousel.age
  rw [setAt_other _ _ _ _ h]

theorem State.choose_free {s : State} (h : s.carousel.emission = none) :
    s.choose = State.chooseFrom (s.carousel.sortDue s.lt s.carousel.due) s := by
  rw [State.choose, h]

/-! ### SLOT_DUE (R107, R108) -/

theorem State.joinDue_joins {s : State} {i : Fin 16} (h : i ∉ s.carousel.due) :
    s.joinDue i = { s with carousel := { s.carousel with due := s.carousel.sortDue s.lt (i :: s.carousel.due) } } := if_neg h

/-- A slot that joins an empty due list is the only one that a free engine chooses from. -/
theorem State.joinDue_choose_alone {s : State} {i : Fin 16} (hfree : s.carousel.emission = none) (hdue : s.carousel.due = []) :
    (s.joinDue i).choose = State.chooseFrom [i] s := by
  have hi : i ∉ s.carousel.due := hdue ▸ List.not_mem_nil
  rw [State.joinDue_joins hi, hdue, State.choose_free (by exact hfree)]
  exact State.chooseFrom_due [i] s [i]

theorem exec_slotDue_nothing {s : State} {i : Fin 16} {d : SlotData} (hd : s.carousel.slots[i] = some d)
    (h : d.run ≠ .running ∨ reached s.lt d.nextDue = false ∨ i ∈ s.carousel.due) : exec (.slotDue i) s = .next s := by
  have notNow : ¬ (d.run = .running ∧ reached s.lt d.nextDue = true ∧ i ∉ s.carousel.due) := by
    rintro ⟨hrun, hreached, hi⟩
    rcases h with h | h | h
    · exact h hrun
    · rw [hreached] at h
      cases h
    · exact hi h
  show execSlotDue i s = _
  simp only [execSlotDue, hd]
  exact if_neg notNow

theorem exec_slotDue_joins {s : State} {i : Fin 16} {d : SlotData} (hd : s.carousel.slots[i] = some d) (hrun : d.run = .running)
    (hreached : reached s.lt d.nextDue = true) (hi : i ∉ s.carousel.due) : exec (.slotDue i) s = .next (s.joinDue i).choose := by
  show execSlotDue i s = _
  simp only [execSlotDue, hd]
  exact if_pos ⟨hrun, hreached, hi⟩

end Sys2Proof.Machine

namespace Sys2Proof.Proofs

open Sys2Proof.Machine Sys2Proof.Safety

/-- Settles O24: the intervals passed are the fewest that lead past LT. -/
theorem nextDueIsFirstNotReached : Obligations.NextDueIsFirstNotReached := by
  unfold Obligations.NextDueIsFirstNotReached
  intro s d hlow hhigh hdue
  obtain ⟨past, within, before⟩ := intervalsPassed_bounds s d (by omega)
  refine ⟨?_, intervalsPassed s d, Nat.succ_pos _, rfl, fun j hj => ?_⟩
  · have notYet := not_le.mpr past
    rw [dueFor] at notYet within
    exact Bool.eq_false_iff.mpr fun h => notYet ((reached_after_iff hdue (by omega)).mp h)
  · have hj := before j hj
    rw [dueFor] at hj
    exact (reached_after_iff hdue (by omega)).mpr hj

/-- Settles O23: the slot joins the due list in its place; a free engine chooses from a list of that slot alone. -/
theorem slotFallsDue : Obligations.SlotFallsDue := by
  unfold Obligations.SlotFallsDue
  intro s i d hd
  refine ⟨exec_slotDue_nothing hd, fun hrun hreached hi => ?_⟩
  rw [exec_slotDue_joins hd hrun hreached hi]
  refine ⟨fun e he => ?_, fun hfree hdue himage => ?_, fun hfree hdue himage => ?_⟩
  · rw [State.joinDue_joins hi, State.choose_busy _ e (by exact he)]
    exact ⟨_, rfl, s.carousel.sortDue_perm s.lt _, s.carousel.sortDue_sorted s.lt _⟩
  · rw [State.joinDue_choose_alone hfree hdue, State.chooseFrom_cons_starts [] hd himage, State.setDue_self hdue]
  · rw [State.joinDue_choose_alone hfree hdue, State.chooseFrom_cons_moves [] hd himage]
    exact congrArg Host.Outcome.next (State.setDue_self (s := withSlot s i _) hdue)

/-- Settles O25: the slot stands first in the order of choice, and the order of the others does not depend on it. -/
theorem longestDueIsChosen : Obligations.LongestDueIsChosen := by
  unfold Obligations.LongestDueIsChosen
  intro s i d hfree hnodup hi hd first
  rw [State.choose_free hfree, Carousel.sortDue_first hi first]
  refine ⟨fun himage => ⟨_, s.carousel.sortDue_perm s.lt _, State.chooseFrom_cons_starts _ hd himage⟩, fun himage => ?_⟩
  have sameOrder : s.carousel.sortDue s.lt (s.carousel.due.erase i) =
      (Carousel.mk (setAt s.carousel.slots i (some { d with nextDue := d.advanceDue s.lt })) (s.carousel.due.erase i)
        s.carousel.emission).sortDue s.lt (s.carousel.due.erase i) := by
    refine Carousel.sortDue_congr _ _ _ _ fun j hj => (Carousel.age_setAt _ _ _ _ ?_).symm
    rintro rfl
    exact hnodup.not_mem_erase hj
  rw [State.chooseFrom_cons_moves _ hd himage, State.choose_free (by exact hfree), sameOrder]
  exact (State.chooseFrom_due _ (withSlot s i _) _).symm

end Sys2Proof.Proofs
end

section
/-! PROOF. SLOT_DEFINE, SLOT_WRITE and SLOT_PUBLISH, executed (O44). -/

namespace Sys2Proof.Machine

open Sys2Proof.Safety

/-! ### The arguments (R190 to R192) -/

/-- A small number's byte reads back as the number. -/
theorem readRange_ofNat {lo hi n : Nat} (rest : List Byte) (h1 : lo ≤ n) (h2 : n ≤ hi) (h3 : hi < 256) :
    readRange 1 lo hi (BitVec.ofNat 8 n :: rest) = some (n, rest) := by
  have value : (BitVec.ofNat 8 n).toNat = n := Nat.mod_eq_of_lt (by omega)
  have read := readRange_byte lo hi (BitVec.ofNat 8 n) rest (by omega) (by omega)
  rwa [value] at read

theorem slotDefineArgs_ok (i : Fin 16) {tag : Tag} (type : Byte) (version : Version) {interval : Nat} (extra : List Byte) (ht : tag ≠ 0)
    (h1 : 10 ≤ interval) (h2 : interval ≤ 10000) :
    slotDefineArgs (BitVec.ofNat 8 i.val
      :: (beBytes 2 tag.toNat ++ type :: BitVec.ofNat 8 version.toNat :: (beBytes 2 interval ++ extra))) =
      .ok ⟨i, tag, type, version, interval⟩ := by
  have hv : version.toNat ≤ 31 := Nat.le_of_lt_succ version.isLt
  have byte : BitVec.ofNat 8 type.toNat = type := by simp
  have five : BitVec.ofNat 5 version.toNat = version := by simp
  rw [slotDefineArgs, argument_ok 1 _ _ _ _ (readIndex_byte 16 i _ (by decide))]
  simp only [bind, Except.bind, pure, Except.pure, argument_ok 2 _ _ _ _ (readTag_tagBytes tag _ ht), ← tagBytes.eq_1,
    argument_ok 3 _ _ _ _ (readNat_byte type _), argument_ok 4 _ _ _ _ (readRange_ofNat _ (Nat.zero_le _) hv (by decide)),
    argument_ok 5 _ _ _ _ (readRange_beBytes 2 10 10000 interval extra (by omega) h1 h2), byte, five]

/-- The bytes of SLOT_WRITE are read, once they are seen to end within the pending image (R191). -/
theorem slotWriteArgs_eq (i : Fin 16) {offset : Nat} {bytes : List Byte} (extra : List Byte) (ho : offset ≤ 2039)
    (h1 : 1 ≤ bytes.length) (h2 : bytes.length ≤ 100) :
    slotWriteArgs (BitVec.ofNat 8 i.val :: (beBytes 2 offset ++ BitVec.ofNat 8 bytes.length :: (bytes ++ extra))) =
      (constraint 3 (decide (offset + bytes.length ≤ Config.bodyBytes))).map fun _ => (i, offset, bytes) := by
  rw [slotWriteArgs, argument_ok 1 _ _ _ _ (readIndex_byte 16 i _ (by decide))]
  simp only [bind, Except.bind, pure, Except.pure,
    argument_ok 2 _ _ _ _ (readRange_beBytes 2 0 2039 offset _ (by omega) (Nat.zero_le _) ho),
    argument_ok 3 _ _ _ _ (readRange_ofNat _ h1 h2 (by decide)), argument_ok 4 _ _ _ _ (readBytes_append bytes extra)]
  cases constraint 3 (decide (offset + bytes.length ≤ Config.bodyBytes)) <;> rfl

theorem slotWriteArgs_ok (i : Fin 16) {offset : Nat} {bytes : List Byte} (extra : List Byte) (ho : offset ≤ 2039)
    (h1 : 1 ≤ bytes.length) (h2 : bytes.length ≤ 100) (hfits : offset + bytes.length ≤ 2040) :
    slotWriteArgs (BitVec.ofNat 8 i.val :: (beBytes 2 offset ++ BitVec.ofNat 8 bytes.length :: (bytes ++ extra))) =
      .ok (i, offset, bytes) := by
  have fits : decide (offset + bytes.length ≤ Config.bodyBytes) = true := decide_eq_true hfits
  rw [slotWriteArgs_eq i extra ho h1 h2, constraint_ok 3 fits]
  rfl

/-- Bytes that end past offset 2039 are held against the count. -/
theorem slotWriteArgs_past (i : Fin 16) {offset : Nat} {bytes : List Byte} (extra : List Byte) (ho : offset ≤ 2039)
    (h1 : 1 ≤ bytes.length) (h2 : bytes.length ≤ 100) (hpast : 2040 < offset + bytes.length) :
    slotWriteArgs (BitVec.ofNat 8 i.val :: (beBytes 2 offset ++ BitVec.ofNat 8 bytes.length :: (bytes ++ extra))) = .error 3 := by
  have refused : constraint 3 (decide (offset + bytes.length ≤ Config.bodyBytes)) = .error 3 := 
    if_neg (mt of_decide_eq_true (Nat.not_le.mpr hpast))
  rw [slotWriteArgs_eq i extra ho h1 h2, refused]
  rfl

theorem slotPublishArgs_ok (i : Fin 16) {length : Nat} (bump : Bool) (extra : List Byte) (h : length ≤ 2040) :
    threeArgs (readIndex 16) (readRange 2 0 2040) readFlag
      (BitVec.ofNat 8 i.val :: (beBytes 2 length ++ (if bump then 1 else 0) :: extra)) = .ok (i, length, bump) :=
  threeArgs_ok _ _ _ _ _ _ _ _ _ _ (readIndex_byte 16 i _ (by decide))
    (readRange_beBytes 2 0 2040 length _ (by omega) (Nat.zero_le _) h) (readFlag_flagByte bump extra)

/-! ### What each command does to a slot (R101 to R103) -/

/-- The code of a slot's state, by that state (R209). -/
theorem slotStateByte_defined {d : SlotData} (h : d.run = .defined) : slotStateByte (some d) = 1 := by simp only [slotStateByte, h]
theorem slotStateByte_running {d : SlotData} (h : d.run = .running) : slotStateByte (some d) = 2 := by simp only [slotStateByte, h]
theorem slotStateByte_stopping {d : SlotData} (h : d.run = .stopping) : slotStateByte (some d) = 3 := by simp only [slotStateByte, h]

section

variable {s : State} {c : Command} {d : SlotData}

theorem slotDefineRequest_act_empty (y : SlotDefineArgs) (h : s.carousel.slots[y.slot] = none) :
    slotDefineRequest.act c y s = (doneWith [0, 1], withSlot s y.slot (some (SlotData.fresh y))) := by
  simp only [slotDefineRequest, h]
  rfl

theorem slotDefineRequest_act_defined (y : SlotDefineArgs) (h : s.carousel.slots[y.slot] = some d) (hrun : d.run = .defined) :
    slotDefineRequest.act c y s =
      (doneWith [1, if d.outTag = y.outTag then 0 else 1], withSlot s y.slot (some (d.redefine y))) := by
  have flag : flagByte (decide (d.outTag ≠ y.outTag)) = if d.outTag = y.outTag then 0 else 1 := by
    rw [flagByte_decide]
    exact ite_not _ _ _
  simp only [slotDefineRequest, h, if_pos hrun, slotStateByte_defined hrun, flag]
  rfl

/-- A slot in RUNNING or STOPPING is not defined again. -/
theorem slotDefineRequest_act_busy (y : SlotDefineArgs) (h : s.carousel.slots[y.slot] = some d) (hrun : d.run ≠ .defined) :
    slotDefineRequest.act c y s = (refusedWith .wrongState [slotStateByte (some d)], s) := by
  simp only [slotDefineRequest, h, if_neg hrun, wrongSlotState]

theorem slotWriteRequest_act_empty (y : Fin 16 × Nat × List Byte) (h : s.carousel.slots[y.1] = none) :
    slotWriteRequest.act c y s = (refusedWith .wrongState [0], s) := by
  simp only [slotWriteRequest, h]
  rfl

theorem slotWriteRequest_act_written (y : Fin 16 × Nat × List Byte) (h : s.carousel.slots[y.1] = some d) :
    slotWriteRequest.act c y s = (doneWith [slotStateByte (some d), flagByte d.published], withSlot s y.1 (some { d with
      pendingBytes := Memory.writeAll d.pendingBytes y.2.1 y.2.2, published := false })) := by
  simp only [slotWriteRequest, h]
  rfl

theorem slotPublishRequest_act_empty (y : Fin 16 × Nat × Bool) (h : s.carousel.slots[y.1] = none) :
    slotPublishRequest.act c y s = (refusedWith .wrongState [0], s) := by
  simp only [slotPublishRequest, h]
  rfl

theorem slotPublishRequest_act_published (y : Fin 16 × Nat × Bool) (h : s.carousel.slots[y.1] = some d) :
    slotPublishRequest.act c y s = (doneWith [flagByte d.published, BitVec.ofNat 8 d.version.toNat], withSlot s y.1 (some { d with
      pendingLen := y.2.1, published := true, bump := y.2.2 })) := by
  simp only [slotPublishRequest, h, version_byte]
  rfl

end

end Sys2Proof.Machine

namespace Sys2Proof.Proofs

open Sys2Proof.Machine Sys2Proof.Safety

/-- Settles O44: the arguments are read as they are spelled, and each command is executed on the slot as its state allows. -/
theorem slotLoadingExecuted : Obligations.SlotLoadingExecuted := by
  unfold Obligations.SlotLoadingExecuted
  intro s c rest x i extra
  refine ⟨fun tag type version interval h ht h1 h2 hargs => ?_, fun offset bytes h ho h1 h2 hargs => ?_, fun length bump h hl hargs => ?_⟩
  · have parsed : slotDefineRequest.parse c.args = .ok ⟨i, tag, type, version, interval⟩ :=
      hargs ▸ slotDefineArgs_ok i type version extra ht h1 h2
    have done {a : Answer} {u : State} (hq : u.agent.replySeq = s.agent.replySeq)
        (hact : slotDefineRequest.act c ⟨i, tag, type, version, interval⟩ (s.taken rest x) = (a, u.taken rest x)) :
        exec .slotDefine s = .next (executed s u c rest x a) :=
      congrArg Host.Outcome.next (State.sessionCommand_act slotDefineRequest h parsed rfl hact hq)
    refine ⟨fun hi => done rfl (slotDefineRequest_act_empty _ hi), fun d hi => ⟨fun hrun => ?_, fun hrun => ?_, fun hrun => ?_⟩⟩
    · exact done rfl (slotDefineRequest_act_defined _ hi hrun)
    · exact done rfl (slotStateByte_running hrun ▸ slotDefineRequest_act_busy _ hi (by simp [hrun]))
    · exact done rfl (slotStateByte_stopping hrun ▸ slotDefineRequest_act_busy _ hi (by simp [hrun]))
  · have done (hfits : offset + bytes.length ≤ 2040) {a : Answer} {u : State} (hq : u.agent.replySeq = s.agent.replySeq)
        (hact : slotWriteRequest.act c (i, offset, bytes) (s.taken rest x) = (a, u.taken rest x)) :
        exec .slotWrite s = .next (executed s u c rest x a) :=
      congrArg Host.Outcome.next (State.sessionCommand_act slotWriteRequest h
        (hargs ▸ slotWriteArgs_ok i extra ho h1 h2 hfits) rfl hact hq)
    refine ⟨fun hpast => ?_, fun hfits hi => done hfits rfl (slotWriteRequest_act_empty _ hi), fun d hfits hi hwf => ?_⟩
    · exact congrArg Host.Outcome.next (State.sessionCommand_badArgument slotWriteRequest h 3
        (hargs ▸ slotWriteArgs_past i extra ho h1 h2 hpast))
    · exact ⟨_, done hfits rfl (slotWriteRequest_act_written _ hi), Memory.wf_writeAll _ _ _ hwf,
        fun a => Memory.read_writeAll bytes d.pendingBytes offset a hwf⟩
  · have done {a : Answer} {u : State} (hq : u.agent.replySeq = s.agent.replySeq)
        (hact : slotPublishRequest.act c (i, length, bump) (s.taken rest x) = (a, u.taken rest x)) :
        exec .slotPublish s = .next (executed s u c rest x a) :=
      congrArg Host.Outcome.next (State.sessionCommand_act slotPublishRequest h
        (hargs ▸ slotPublishArgs_ok i bump extra hl) rfl hact hq)
    exact ⟨fun hi => done rfl (slotPublishRequest_act_empty _ hi), fun d hi => done rfl (slotPublishRequest_act_published _ hi)⟩

end Sys2Proof.Proofs
end

section
/-! PROOF. SLOT_START, executed in R104's order (O45). -/

namespace Sys2Proof.Machine

open Sys2Proof.Safety

/-! ### What an output tag clashes with (R104) -/

theorem Bank.forwarder_of_mem {b : Bank} {e : Entry} (hn : (forwardTags b.fields).Nodup) (he : e ∈ b.entries)
    (hf : e.fields.forwards = true) : b.forwarder e.fields.effectiveTag = some e := by
  have tags : forwardTags b.fields = (b.entries.filter fun e => e.fields.forwards).map fun e => e.fields.effectiveTag := by
    simp [forwardTags, Bank.fields, List.filter_map, Function.comp_def]
  have found : b.forwarder e.fields.effectiveTag ≠ none := fun h =>
    (Bank.forwarder_eq_none_iff b _).mp h ((mem_forwardTags _ _).mpr ⟨_, List.mem_map_of_mem he, hf, rfl⟩)
  obtain ⟨e', he'⟩ := Option.ne_none_iff_exists'.mp found
  have hp := List.find?_some he'
  have hm := List.mem_of_find?_eq_some he'
  obtain ⟨hf', ht⟩ : e'.fields.forwards = true ∧ e'.fields.effectiveTag = e.fields.effectiveTag := by simpa using hp
  have same : e' = e := List.inj_on_of_nodup_map (tags ▸ hn) (List.mem_filter.mpr ⟨hm, hf'⟩) (List.mem_filter.mpr ⟨he, hf⟩) ht
  rw [he', same]

/-- Each pair among the assigned ones is a slot and the tag that it assigns. -/
theorem Carousel.slotTag_of_mem_assigned {c : Carousel} {i : Fin 16} {t : Tag} (h : (i, t) ∈ c.assigned) :
    slotTag c.slots[i] = some t := by
  obtain ⟨j, -, hj⟩ := List.mem_filterMap.mp h
  split at hj
  · next d hd =>
    split_ifs at hj with hrun
    obtain ⟨rfl, rfl⟩ := Prod.mk.inj (Option.some.inj hj)
    exact (slotTag_eq_some _ _).mpr ⟨d, hd, hrun, rfl⟩
  · cases hj

/-- The holder of a tag that no two slots assign is the slot that assigns it. -/
theorem Carousel.holder_of_slotTag {c : Carousel} {j : Fin 16} {t : Tag} (hn : (c.assigned.map Prod.snd).Nodup)
    (hj : slotTag c.slots[j] = some t) : c.holder t = some j := by
  obtain ⟨i, hi⟩ := Option.isSome_iff_exists.mp ((Carousel.holder_isSome_iff c t).mpr ⟨j, hj⟩)
  obtain ⟨⟨i', t'⟩, hfound, rfl⟩ := Option.map_eq_some_iff.mp hi
  have htag : t' = t := by simpa using List.find?_some hfound
  subst htag
  have assigns : slotTag c.slots[i'] = some t' := Carousel.slotTag_of_mem_assigned (List.mem_of_find?_eq_some hfound)
  rw [hi, (Carousel.assigned_nodup_iff c).mp hn i' j t' assigns hj]

section

variable {s : State} {t : Tag}

theorem startClash_entry {e : Entry} (hn : (outputTags s).Nodup) (he : e ∈ s.map.activeBank.entries) (hf : e.fields.forwards = true) :
    startClash s e.fields.effectiveTag = some (conflictBytes .activeEntry e.fields.inputTag.toNat) := by
  rw [outputTags_eq] at hn
  rw [startClash, Bank.forwarder_of_mem hn.of_append_left he hf]

theorem startClash_replyTag (hn : (outputTags s).Nodup) :
    startClash s s.agent.replyTag = some (conflictBytes .replyTag s.agent.replyTag.toNat) := by
  rw [outputTags_eq, List.nodup_append] at hn
  obtain ⟨-, -, apart⟩ := hn
  have free : s.map.activeBank.forwarder s.agent.replyTag = none :=
    (Bank.forwarder_eq_none_iff _ _).mpr fun h => apart _ h _ List.mem_cons_self rfl
  rw [startClash, free]
  exact if_pos rfl

theorem startClash_slot {j : Fin 16} (hn : (outputTags s).Nodup) (hj : slotTag s.carousel.slots[j] = some t) :
    startClash s t = some (conflictBytes .activeSlot j.val) := by
  rw [outputTags_eq, List.nodup_append, List.nodup_cons] at hn
  obtain ⟨-, ⟨hreply, hslots⟩, apart⟩ := hn
  have assigned : t ∈ s.carousel.assigned.map Prod.snd := (Carousel.mem_assigned_tags _ _).mpr ⟨j, hj⟩
  have free : s.map.activeBank.forwarder t = none :=
    (Bank.forwarder_eq_none_iff _ _).mpr fun h => apart _ h _ (List.mem_cons_of_mem _ assigned) rfl
  have notReply : t ≠ s.agent.replyTag := fun h => hreply (h ▸ assigned)
  simp only [startClash, free, if_neg notReply, Carousel.holder_of_slotTag hslots hj, Option.map_some]

/-- A tag that nothing assigns clashes with nothing. -/
theorem startClash_unassigned (h : t ∉ outputTags s) : startClash s t = none := by
  rw [outputTags_eq, List.mem_append, List.mem_cons, not_or, not_or] at h
  obtain ⟨hentries, hreply, hslots⟩ := h
  have free : s.map.activeBank.forwarder t = none := (Bank.forwarder_eq_none_iff _ _).mpr hentries
  have unheld : s.carousel.holder t = none :=
    (Carousel.holder_eq_none_iff _ _).mpr fun i hi => hslots ((Carousel.mem_assigned_tags _ _).mpr ⟨i, hi⟩)
  simp only [startClash, free, if_neg hreply, unheld, Option.map_none]

end

theorem conflictBytes_activeSlot : ∀ j : Fin 16, conflictBytes .activeSlot j.val = [7, 0, BitVec.ofNat 8 j.val] := by decide

/-! ### What SLOT_START does to a slot (R104) -/

section

variable {s : State} {c : Command} {i : Fin 16} {d : SlotData}

theorem slotStartRequest_act_empty (h : s.carousel.slots[i] = none) :
    slotStartRequest.act c i s = (refusedWith .wrongState [0, 1], s) := by
  simp only [slotStartRequest, h]
  rfl

theorem slotStartRequest_act_stopping (h : s.carousel.slots[i] = some d) (hrun : d.run = .stopping) :
    slotStartRequest.act c i s = (refusedWith .wrongState [3, 1], s) := by
  simp only [slotStartRequest, h, hrun, slotStateByte_stopping hrun]

theorem slotStartRequest_act_running (h : s.carousel.slots[i] = some d) (hrun : d.run = .running) :
    slotStartRequest.act c i s = (doneWith [2, 0, 0, 0, 0, 0, 0, 0], s) := by
  simp only [slotStartRequest, h, hrun, slotStateByte_running hrun]
  rfl

/-- The command's test for an image. -/
theorem imageless_iff : (d.current.isNone && !d.published) = true ↔ ¬ HasImage d := by
  simp [not_hasImage_iff]

theorem slotStartRequest_act_imageless (h : s.carousel.slots[i] = some d) (hrun : d.run = .defined) (himage : ¬ HasImage d) :
    slotStartRequest.act c i s = (refusedWith .wrongState [1, 2], s) := by
  simp only [slotStartRequest, h, hrun, if_pos (imageless_iff.mpr himage), slotStateByte_defined hrun]

theorem slotStartRequest_act_clash {r : List Byte} (h : s.carousel.slots[i] = some d) (hrun : d.run = .defined) (himage : HasImage d)
    (hr : startClash s d.outTag = some r) : slotStartRequest.act c i s = (refusedWith .conflict r, s) := by
  simp only [slotStartRequest, h, hrun, if_neg (mt imageless_iff.mp (not_not.mpr himage)), hr]

theorem slotStartRequest_act_starts (h : s.carousel.slots[i] = some d) (hrun : d.run = .defined) (himage : HasImage d)
    (hr : startClash s d.outTag = none) :
    slotStartRequest.act c i s = (doneWith ([1, 1] ++ beBytes 6 s.lt.toNat), s.startSlot i d) := by
  simp only [slotStartRequest, h, hrun, if_neg (mt imageless_iff.mp (not_not.mpr himage)), hr, slotStateByte_defined hrun]
  rfl

end

/-! ### The engine's choice at a start (R107 to R110) -/

/-- A slot that becomes due now has passed one interval. -/
theorem intervalsPassed_now {s : State} {d : SlotData} (h : d.nextDue = s.lt) : intervalsPassed s d = 1 := by
  simp [intervalsPassed, dueFor, h]

/-- A slot as SLOT_START leaves it: RUNNING and due at once (R104). -/
def SlotData.started (d : SlotData) (lt : Lt) : SlotData := { d with run := .running, nextDue := lt }

section

variable {s : State} {i : Fin 16} {d : SlotData}

theorem State.startSlot_eq : s.startSlot i d = ((s.setSlot i (some (d.started s.lt))).joinDue i).choose := rfl

/-- With the engine free and no slot due, the slot's emission starts at once. -/
theorem State.startSlot_emits (himage : HasImage d) (hfree : s.carousel.emission = none) (hdue : s.carousel.due = []) :
    s.startSlot i d = emissionStarted s i (d.started s.lt) 1 := by
  have held : (s.setSlot i (some (d.started s.lt))).carousel.slots[i] = some (d.started s.lt) := setAt_same ..
  rw [State.startSlot_eq, State.joinDue_choose_alone (by exact hfree) (by exact hdue), State.chooseFrom_cons_starts [] held himage,
    State.setDue_self (by exact hdue), intervalsPassed_now rfl]
  simp only [emissionStarted, State.setSlot, setAt_setAt]

/-- With an emission in progress, the slot joins the due list and waits. -/
theorem State.startSlot_waits {e : Emission} (hbusy : s.carousel.emission = some e) (hi : i ∉ s.carousel.due) :
    ∃ due : List (Fin 16), due.Perm (i :: s.carousel.due) ∧ s.startSlot i d =
      { withSlot s i (some (d.started s.lt)) with
        carousel := { (withSlot s i (some (d.started s.lt))).carousel with due := due } } := by
  refine ⟨_, (s.setSlot i (some (d.started s.lt))).carousel.sortDue_perm s.lt (i :: s.carousel.due), ?_⟩
  rw [State.startSlot_eq, State.joinDue_joins (by exact hi), State.choose_busy _ e (by exact hbusy)]
  rfl

end

end Sys2Proof.Machine

namespace Sys2Proof.Proofs

open Sys2Proof.Machine Sys2Proof.Safety

/-- Settles O45: the checks in R104's order, each answered from what the slot and the output tags are; a slot that passes them all starts. -/
theorem slotStartExecuted : Obligations.SlotStartExecuted := by
  unfold Obligations.SlotStartExecuted
  intro s c rest x i extra h hargs
  have index : oneArg (readIndex 16) c.args = .ok i := hargs ▸ oneArg_ok _ _ extra i (readIndex_byte 16 i extra (by decide))
  have done {a : Answer} {u : State} (hq : u.agent.replySeq = s.agent.replySeq)
      (hact : slotStartRequest.act c i (s.taken rest x) = (a, u.taken rest x)) : exec .slotStart s = .next (executed s u c rest x a) :=
    congrArg Host.Outcome.next (State.sessionCommand_act slotStartRequest h index rfl hact hq)
  refine ⟨fun hi => done rfl (slotStartRequest_act_empty hi), fun d hi => ⟨fun hrun => ?_, fun hrun => ?_, fun hrun himage => ?_,
    fun hrun himage hn => ?_, fun hrun himage hfree => ?_⟩⟩
  · exact done rfl (slotStartRequest_act_stopping hi hrun)
  · exact done rfl (slotStartRequest_act_running hi hrun)
  · exact done rfl (slotStartRequest_act_imageless hi hrun himage)
  · have clash {r : List Byte} (hr : startClash s d.outTag = some r) :
        exec .slotStart s = .next (executed s s c rest x ⟨.refused, .conflict, r⟩) :=
      done rfl (slotStartRequest_act_clash (s := s.taken rest x) hi hrun himage hr)
    refine ⟨fun e he hf ht => clash (ht ▸ startClash_entry hn he hf), fun ht => clash ?_, fun j y hj hassigns ht => clash ?_⟩
    · rw [ht]
      exact startClash_replyTag hn
    · rw [← conflictBytes_activeSlot]
      exact startClash_slot hn ((slotTag_eq_some _ _).mpr ⟨y, hj, hassigns, ht⟩)
  · have starts : slotStartRequest.act c i (s.taken rest x) = _ :=
      slotStartRequest_act_starts (s := s.taken rest x) hi hrun himage (startClash_unassigned hfree)
    refine ⟨fun hidle hdue => ?_, fun e hbusy hdue => ?_⟩
    · rw [State.startSlot_emits himage (by exact hidle) (by exact hdue)] at starts
      exact done rfl starts
    · obtain ⟨due, hperm, hstart⟩ := State.startSlot_waits (s := s.taken rest x) (d := d) hbusy hdue
      rw [hstart] at starts
      exact ⟨due, hperm, done rfl starts⟩

end Sys2Proof.Proofs
end

section
/-! PROOF. SLOT_STOP, SLOT_CLEAR and SLOT_QUERY, executed (O46). -/

namespace Sys2Proof.Machine

open Sys2Proof.Safety

/-! ### What each command does to a slot (R105, R106) -/

theorem Carousel.stopped_emitting {c : Carousel} {i : Fin 16} (h : ∃ e, c.emission = some e ∧ e.slot = i) :
    c.stopped i = .stopping := by
  obtain ⟨e, he, hi⟩ := h
  simp [Carousel.stopped, Carousel.emits, he, hi]

theorem Carousel.stopped_silent {c : Carousel} {i : Fin 16} (h : ∀ e, c.emission = some e → e.slot ≠ i) :
    c.stopped i = .defined := by
  cases he : c.emission with
  | none => simp [Carousel.stopped, Carousel.emits, he]
  | some e => simp [Carousel.stopped, Carousel.emits, he, h e he]

section

variable {s : State} {c : Command} {i : Fin 16} {d : SlotData}

theorem slotStopRequest_act_empty (h : s.carousel.slots[i] = none) : slotStopRequest.act c i s = (refusedWith .wrongState [0], s) := by
  simp only [slotStopRequest, h]
  rfl

theorem slotStopRequest_act_running {run : SlotRun} (h : s.carousel.slots[i] = some d) (hrun : d.run = .running)
    (hs : s.carousel.stopped i = run) :
    slotStopRequest.act c i s = (doneWith [2, slotStateByte (some { d with run := run })],
      { withSlot s i (some { d with run := run }) with
        carousel := { (withSlot s i (some { d with run := run })).carousel with due := s.carousel.due.filter fun j => j != i } }) := by
  subst hs
  simp only [slotStopRequest, h, if_pos hrun, slotStateByte_running hrun]
  rfl

/-- A slot that is not in RUNNING is left as it is. -/
theorem slotStopRequest_act_still (h : s.carousel.slots[i] = some d) (hrun : d.run ≠ .running) :
    slotStopRequest.act c i s = (doneWith [slotStateByte (some d), slotStateByte (some d)], s) := by
  simp only [slotStopRequest, h, if_neg hrun]

theorem slotClearRequest_act_empty (h : s.carousel.slots[i] = none) : slotClearRequest.act c i s = (doneWith [0], s) := by
  simp only [slotClearRequest, h]
  rfl

theorem slotClearRequest_act_defined (h : s.carousel.slots[i] = some d) (hrun : d.run = .defined) :
    slotClearRequest.act c i s = (doneWith [1], withSlot s i none) := by
  simp only [slotClearRequest, h, if_pos hrun, slotStateByte_defined hrun]
  rfl

theorem slotClearRequest_act_busy (h : s.carousel.slots[i] = some d) (hrun : d.run ≠ .defined) :
    slotClearRequest.act c i s = (refusedWith .wrongState [slotStateByte (some d)], s) := by
  simp only [slotClearRequest, h, if_neg hrun, wrongSlotState]

end

/-! ### What SLOT_QUERY reports (R115) -/

/-- An empty slot's report is empty, if no emission runs under its number. -/
theorem slotQueryResult_empty {c : Carousel} {i : Fin 16} (h : c.slots[i] = none) (hfree : ∀ e, c.emission = some e → e.slot ≠ i) :
    slotQueryResult c i = List.replicate 52 0 := by
  have silent : (c.emission.filter fun e => decide (e.slot = i)) = none :=
    Option.filter_eq_none_iff.mpr fun e he => by simp [hfree e he]
  simp only [slotQueryResult, h, silent]
  rfl

theorem slotProgress_eq (e : Option Emission) :
    optBytes 4 (fun e : Emission => countBytes e.placed) e ++ optBytes 4 (fun e : Emission => countBytes (cellCount e.message.length)) e =
      match e with
      | some e => [1] ++ beBytes 4 e.placed ++ [1] ++ beBytes 4 (cellCount e.message.length)
      | none => List.replicate 10 0 := by
  cases e <;> rfl

/-- The two items on the slot's due time. -/
theorem dueItems_eq (d : SlotData) (b : Bool) :
    optBytes 6 (fun d : SlotData => ltBytes d.nextDue) ((some d).filter fun d => decide (d.run = .running))
      ++ optBytes 1 (fun _ : SlotData => [flagByte b]) ((some d).filter fun d => decide (d.run = .running)) =
      if d.run = .running then [1] ++ beBytes 6 d.nextDue.toNat ++ [1, flagByte b] else List.replicate 9 0 := by
  by_cases hrun : d.run = .running
  · simp [hrun, Option.filter, optBytes, ltBytes]
  · simp [hrun, Option.filter, optBytes]

/-- A slot's report, item by item. -/
theorem slotQueryResult_held {c : Carousel} {i : Fin 16} {d : SlotData} (h : c.slots[i] = some d) :
    slotQueryResult c i =
      [slotStateByte (some d), 1] ++ beBytes 2 d.outTag.toNat ++ [1, d.type, 1, BitVec.ofNat 8 d.version.toNat, 1]
        ++ beBytes 2 d.interval
        ++ (match d.current with
            | some body => [1] ++ beBytes 2 body.length
            | none => [0, 0, 0])
        ++ [1] ++ beBytes 2 d.pendingLen
        ++ [1, if d.published then 1 else 0, 1, if d.bump then 1 else 0, 1, BitVec.ofNat 8 d.outSeq.toNat]
        ++ (if d.run = .running then [1] ++ beBytes 6 d.nextDue.toNat ++ [1, if i ∈ c.due then 1 else 0] else List.replicate 9 0)
        ++ (match c.emission.filter fun e => e.slot = i with
            | some e => [1] ++ beBytes 4 e.placed ++ [1] ++ beBytes 4 (cellCount e.message.length)
            | none => List.replicate 10 0)
        ++ [1] ++ beBytes 4 d.emissions.toNat ++ [1] ++ beBytes 4 d.lateEvents.toNat := by
  have listed : (if i ∈ c.due then 1 else 0) = flagByte (c.due.contains i) := by simp [flagByte]
  have image : optBytes 2 (fun b : List Byte => beBytes 2 b.length) d.current =
      match d.current with
      | some body => [1] ++ beBytes 2 body.length
      | none => [0, 0, 0] := by cases d.current <;> rfl
  rw [listed, ← image, ← dueItems_eq, ← slotProgress_eq]
  simp only [slotQueryResult, h, Option.bind_some, version_byte, seq_byte]
  simp only [optBytes, tagBytes, countBytes, counterBytes, flagByte, List.append_assoc, List.cons_append, List.nil_append]

end Sys2Proof.Machine

namespace Sys2Proof.Proofs

open Sys2Proof.Machine Sys2Proof.Safety

/-- Settles O46: each command is executed on the slot as its state allows, and the report lists the slot's items. -/
theorem slotEndingExecuted : Obligations.SlotEndingExecuted := by
  unfold Obligations.SlotEndingExecuted
  intro s c rest x i extra hargs
  have index : oneArg (readIndex 16) c.args = .ok i := hargs ▸ oneArg_ok _ _ extra i (readIndex_byte 16 i extra (by decide))
  have stop (h : InSequence s 0x45 c rest x) {a : Answer} {u : State} (hq : u.agent.replySeq = s.agent.replySeq)
      (hact : slotStopRequest.act c i (s.taken rest x) = (a, u.taken rest x)) : exec .slotStop s = .next (executed s u c rest x a) :=
    congrArg Host.Outcome.next (State.sessionCommand_act slotStopRequest h index rfl hact hq)
  have clear (h : InSequence s 0x46 c rest x) {a : Answer} {u : State} (hq : u.agent.replySeq = s.agent.replySeq)
      (hact : slotClearRequest.act c i (s.taken rest x) = (a, u.taken rest x)) : exec .slotClear s = .next (executed s u c rest x a) :=
    congrArg Host.Outcome.next (State.sessionCommand_act slotClearRequest h index rfl hact hq)
  have query (h : InSequence s 0x47 c rest x) {r : List Byte} (hr : slotQueryResult s.carousel i = r) :
      exec .slotQuery s = .next (executed s s c rest x ⟨.done, .none, r⟩) :=
    congrArg Host.Outcome.next (State.sessionCommand_act slotQueryRequest h index rfl (hr ▸ rfl) rfl)
  refine ⟨fun hi => ⟨fun h => stop h rfl (slotStopRequest_act_empty hi), fun h => clear h rfl (slotClearRequest_act_empty hi),
    fun h hfree => query h (slotQueryResult_empty hi hfree)⟩, fun d hi => ⟨fun h => ?_, fun h => ?_, fun h => ?_⟩⟩
  · refine ⟨fun hrun he => ?_, fun hrun he => ?_, fun hrun => ?_, fun hrun => ?_⟩
    · exact stop h rfl (slotStopRequest_act_running (s := s.taken rest x) hi hrun (Carousel.stopped_emitting he))
    · exact stop h rfl (slotStopRequest_act_running (s := s.taken rest x) hi hrun (Carousel.stopped_silent he))
    · exact stop h rfl (slotStateByte_stopping hrun ▸ slotStopRequest_act_still hi (by simp [hrun]))
    · exact stop h rfl (slotStateByte_defined hrun ▸ slotStopRequest_act_still hi (by simp [hrun]))
  · refine ⟨fun hrun => ?_, fun hrun => ?_, fun hrun => ?_⟩
    · exact clear h rfl (slotClearRequest_act_defined hi hrun)
    · exact clear h rfl (slotStateByte_running hrun ▸ slotClearRequest_act_busy hi (by simp [hrun]))
    · exact clear h rfl (slotStateByte_stopping hrun ▸ slotClearRequest_act_busy hi (by simp [hrun]))
  · exact query h (slotQueryResult_held hi)

end Sys2Proof.Proofs
end

section
/-! PROOF. Which six bytes form a valid header, and that its check finds every one-byte corruption (O4). -/

namespace Sys2Proof.Machine

open Sys2Proof.Safety

/-! ### The header check loses nothing of one byte (R204) -/

/-- One shift of the CRC-8 register taken back: the generator is odd, so the bit shifted in says whether it was worked in. -/
def crc8Unshift (r : Byte) : Byte := if r.getLsbD 0 then ((r ^^^ 0x31#8) >>> 1) ||| 0x80#8 else r >>> 1

theorem crc8Unshift_crc8Shift : Function.LeftInverse crc8Unshift crc8Shift := by
  unfold Function.LeftInverse
  decide

theorem repeat_injective {α : Type} {f : α → α} (hf : Function.Injective f) : ∀ n, Function.Injective (Nat.repeat f n)
  | 0 => Function.injective_id
  | n + 1 => hf.comp (repeat_injective hf n)

theorem crc8Shift_repeat_injective : Function.Injective (Nat.repeat crc8Shift 8) :=
  repeat_injective crc8Unshift_crc8Shift.injective 8

/-- Different bytes worked into one register leave different registers. -/
theorem crc8Byte_injective (r : Byte) : Function.Injective (crc8Byte r) :=
  crc8Shift_repeat_injective.comp fun _ _ => (BitVec.xor_right_inj r).mp

/-- One byte worked into different registers leaves different registers. -/
theorem crc8Byte_register_injective (b : Byte) : Function.Injective (crc8Byte · b) :=
  crc8Shift_repeat_injective.comp fun _ _ => (BitVec.xor_left_inj b).mp

/-- Whatever bytes follow, different registers stay different. -/
theorem foldl_crc8Byte_injective (bs : List Byte) : Function.Injective (bs.foldl crc8Byte ·) := by
  induction bs with
  | nil => exact Function.injective_id
  | cons b bs ih => exact ih.comp (crc8Byte_register_injective b)

/-- The check tells apart any two values of one byte among others. -/
theorem crc8_set_injective {bs : List Byte} {i : Nat} (hi : i < bs.length) : Function.Injective fun b => crc8 (bs.set i b) := by
  have folded (b : Byte) : crc8 (bs.set i b) = (bs.drop (i + 1)).foldl crc8Byte (crc8Byte (crc8 (bs.take i)) b) := by
    rw [List.set_eq_take_append_cons_drop, if_pos hi, crc8, List.foldl_append, List.foldl_cons, crc8]
  simp only [folded]
  exact (foldl_crc8Byte_injective _).comp (crc8Byte_injective _)

/-- The check worked over bytes and the check behind them is zero. -/
theorem crc8_append_self (bs : List Byte) : crc8 (bs ++ [crc8 bs]) = 0 := by
  have last : crc8 (bs ++ [crc8 bs]) = crc8Byte (crc8 bs) (crc8 bs) := List.foldl_append
  rw [last, crc8Byte, BitVec.xor_self]
  decide

/-! ### A valid header's bytes (R120) -/

theorem crc8_sampleBytes_valid {h : HeaderSample} (hv : ValidHeader h) : crc8 (sampleBytes h) = 0 := by
  obtain ⟨-, hcheck, -, -⟩ := hv
  have bytes : sampleBytes h = [h.b0.data, h.b1.data, h.b2.data, h.b3.data, h.b4.data] ++ [h.b5.data] := rfl
  rw [bytes, hcheck, crc8_append_self]

/-- Six bytes that differ in one byte from six others are those with that byte replaced. -/
theorem eq_set_of_oneByteOff {x y : List Byte} (hx : x.length = 6) (hy : y.length = 6) (h : OneByteOff x y) :
    ∃ (i : Nat) (b : Byte) (hi : i < x.length), b ≠ x[i] ∧ y = x.set i b := by
  obtain ⟨i, hi, hne, hsame⟩ := h
  refine ⟨i, y.getD i 0, hx ▸ hi, fun he => hne ?_, List.ext_getElem (by simp [hx, hy]) fun j hjy hjset => ?_⟩
  · rw [he, List.getD_eq_getElem]
  · have hjx : j < x.length := by rwa [List.length_set] at hjset
    rw [List.getElem_set, ← List.getD_eq_getElem y 0 hjy, ← List.getD_eq_getElem x 0 hjx]
    split_ifs with hij
    · rw [hij]
    · exact (hsame j (hy ▸ hjy) (Ne.symm hij)).symm

/-- No one-byte corruption keeps the check zero. -/
theorem crc8_ne_of_oneByteOff {x y : List Byte} (hx : x.length = 6) (hy : y.length = 6) (h : OneByteOff x y) : crc8 y ≠ crc8 x := by
  obtain ⟨i, b, hi, hb, rfl⟩ := eq_set_of_oneByteOff hx hy h
  intro he
  rw [← List.set_getElem_self hi, List.set_set] at he
  exact hb (crc8_set_injective hi he)

/-- IERR has no part in a header's reading (R120). -/
theorem HeaderSample.header_quiet (h : HeaderSample) : HeaderSample.header (quiet h) = HeaderSample.header h := rfl

end Sys2Proof.Machine

namespace Sys2Proof.Proofs

open Sys2Proof.Machine Sys2Proof.Safety

/-- Settles O4: over a valid header's six bytes the check is zero, and a single byte's change changes it. -/
theorem headerValidity : Obligations.HeaderValidity := by
  unfold Obligations.HeaderValidity
  refine fun h => ⟨HeaderSample.header_isSome_iff h, (HeaderSample.header_quiet h).symm, fun g hoff hh hg => ?_⟩
  exact crc8_ne_of_oneByteOff rfl rfl hoff ((crc8_sampleBytes_valid hg).trans (crc8_sampleBytes_valid hh).symm)

end Sys2Proof.Proofs
end

section
/-! PROOF. Header bytes written and read back, and read and written back (O5). -/

namespace Sys2Proof.Machine

/-! ### The third header byte: four tag bits, three flags, a zero bit (R203) -/

/-- The third header byte of a tag's lower 4 bits and the flags U, K and F. -/
def flagsByte (n : BitVec 4) (u k f : Bool) : Byte := n ++ BitVec.ofBool u ++ BitVec.ofBool k ++ BitVec.ofBool f ++ 0#1

theorem flagsByte_tagBits (n : BitVec 4) (u k f : Bool) : (flagsByte n u k f).extractLsb' 4 4 = n := by
  simp only [flagsByte, BitVec.extractLsb'_append_eq_of_le, Nat.reduceLeDiff, Nat.reduceSub, BitVec.extractLsb'_eq_self]

theorem flagsByte_flags (n : BitVec 4) (u k f : Bool) :
    (flagsByte n u k f).getLsbD 3 = u ∧ (flagsByte n u k f).getLsbD 2 = k ∧ (flagsByte n u k f).getLsbD 1 = f := by
  simp only [flagsByte, BitVec.getLsbD_append, BitVec.getLsbD_ofBool, Nat.reduceLT, Nat.reduceSub, ↓reduceIte, decide_true,
    Bool.true_and, and_self]

/-- A bit of a byte as the field of that one bit. -/
theorem ofBool_getLsbD (b : Byte) (i : Nat) : BitVec.ofBool (b.getLsbD i) = b.extractLsb' i 1 := by
  refine BitVec.eq_of_getLsbD_eq fun j hj => ?_
  obtain rfl : j = 0 := Nat.lt_one_iff.mp hj
  simp

/-- Two fields of which the lower ends where the upper begins are one field. -/
theorem extractLsb'_append_above {w : Nat} (x : BitVec w) (start len upper : Nat) :
    x.extractLsb' (start + len) upper ++ x.extractLsb' start len = x.extractLsb' start (upper + len) :=
  BitVec.extractLsb'_append_extractLsb'_eq_extractLsb' rfl

/-- A byte with the lowest bit zero is the third header byte of its own fields. -/
theorem flagsByte_of_fields {b : Byte} (h : b.getLsbD 0 = false) :
    flagsByte (b.extractLsb' 4 4) (b.getLsbD 3) (b.getLsbD 2) (b.getLsbD 1) = b := by
  have zero : 0#1 = b.extractLsb' 0 1 := by
    rw [← ofBool_getLsbD, h]
    rfl
  rw [flagsByte, ofBool_getLsbD, ofBool_getLsbD, ofBool_getLsbD, zero, extractLsb'_append_above b 3 1 4,
    extractLsb'_append_above b 2 1 5, extractLsb'_append_above b 1 1 6, extractLsb'_append_above b 0 1 7, BitVec.extractLsb'_eq_self]

/-! ### The tag and the sequence (R203) -/

theorem tag_parts (t : Tag) : t.extractLsb' 4 8 ++ t.extractLsb' 0 4 = t := by
  rw [extractLsb'_append_above t 0 4 8, BitVec.extractLsb'_eq_self]

/-- A sequence is read back from its byte. -/
theorem seqByte_lowerBits (q : Seq) : (q.zeroExtend 8 : Byte).extractLsb' 0 6 = q := by
  rw [BitVec.zeroExtend, BitVec.extractLsb'_setWidth_of_le (by decide), BitVec.extractLsb'_eq_self]

/-- A byte with the two upper bits zero is the byte of the sequence in it. -/
theorem seqByte_of_lowerBits {b : Byte} (h : b.extractLsb' 6 2 = 0#2) : (b.extractLsb' 0 6).zeroExtend 8 = b := by
  have parts : b.extractLsb' 6 2 ++ b.extractLsb' 0 6 = b := by
    rw [extractLsb'_append_above b 0 6 2, BitVec.extractLsb'_eq_self]
  rw [h] at parts
  exact (BitVec.setWidth_eq_append (by decide)).trans parts

/-! ### The six bytes (R120, R203) -/

/-- The header body with its third byte by name. -/
theorem headerBody_flagsByte (h : Header) : headerBody h =
    [0xD2, h.tag.extractLsb' 4 8, flagsByte (h.tag.extractLsb' 0 4) h.u h.k h.f, h.seq.zeroExtend 8, h.len] := rfl

/-- The bytes that a header is written as carry that header. -/
theorem readHeader_written (h : Header) (hl : h.len.toNat ≤ 122) :
    readHeader 0xD2 (h.tag.extractLsb' 4 8) (flagsByte (h.tag.extractLsb' 0 4) h.u h.k h.f) (h.seq.zeroExtend 8) h.len
      (crc8 (headerBody h)) = some h := by
  obtain ⟨hu, hk, hf⟩ := flagsByte_flags (h.tag.extractLsb' 0 4) h.u h.k h.f
  rw [readHeader, if_pos ⟨rfl, rfl, headerFlags_zeroBit h, seqByte_upperBits h.seq, hl⟩, flagsByte_tagBits, hu, hk, hf, tag_parts,
    seqByte_lowerBits]

/-- A header that six bytes carry is written as those bytes. -/
theorem headerBytes_of_readHeader {b0 b1 b2 b3 b4 b5 : Byte} {h : Header} (hr : readHeader b0 b1 b2 b3 b4 b5 = some h) :
    headerBytes h = [b0, b1, b2, b3, b4, b5] := by
  unfold readHeader at hr
  split_ifs at hr with hv
  obtain ⟨rfl, hcheck, hzero, hupper, -⟩ := hv
  cases hr
  have body : headerBody ⟨b1 ++ b2.extractLsb' 4 4, b2.getLsbD 3, b2.getLsbD 2, b2.getLsbD 1, b3.extractLsb' 0 6, b4⟩ =
      [0xD2, b1, b2, b3, b4] := by
    rw [headerBody_flagsByte, BitVec.extractLsb'_append_eq_left, BitVec.extractLsb'_append_eq_right, flagsByte_of_fields hzero,
      seqByte_of_lowerBits hupper]
  rw [headerBytes, body, ← hcheck]
  rfl

end Sys2Proof.Machine

namespace Sys2Proof.Proofs

open Sys2Proof.Machine

/-- Settles O5: field by field, the writing and the reading of a header undo each other. -/
theorem headerRoundTrip : Obligations.HeaderRoundTrip := by
  unfold Obligations.HeaderRoundTrip
  exact ⟨readHeader_written, fun _ _ _ _ _ _ _ => headerBytes_of_readHeader⟩

end Sys2Proof.Proofs
end

section
/-! PROOF. CELL_DELIVERY (O10). -/

namespace Sys2Proof.Machine

open Sys2Proof.Safety

/-- The damage marking that a cell is delivered with: its header's F, or IERR high on one of its bytes (R128). -/
def RxCell.damaged (r : RxCell) (payload : List RxByte) : Bool := r.hdr.f || r.ierr || payload.any RxByte.ierr

theorem RxCell.damaged_iff (r : RxCell) (payload : List RxByte) : r.damaged payload = true ↔ Damaged r payload := by
  simp only [RxCell.damaged, Damaged, Bool.or_eq_true, List.any_eq_true, or_assoc]

section

variable {s : State} {r : RxCell} {payload : List RxByte}

/-- Filler is counted and discarded (R124). -/
theorem exec_cellDelivery_filler (hr : s.line.receiving = some r) (hp : payload.length = 122) (ht : r.hdr.tag = 0) :
    exec (.cellDelivery payload) s = .next { s with line := { s.line with
      receiving := none
      counters := { s.line.counters with fillerReceived := Counter.inc s.line.counters.fillerReceived } } } := by
  have whole : ¬ payload.length ≠ Config.payloadBytes := not_not.mpr hp
  simp only [exec, execCellDelivery, hr, if_neg whole, if_pos ht]

/-- Any other cell joins the Classifier's input with its damage marking (R124, R128). -/
theorem exec_cellDelivery_cell {damaged : Bool} (hr : s.line.receiving = some r) (hp : payload.length = 122) (ht : r.hdr.tag ≠ 0)
    (hd : r.damaged payload = damaged) :
    exec (.cellDelivery payload) s = .next { s with
      line := { s.line with
        receiving := none
        counters := { s.line.counters with
          cellsDelivered := Counter.inc s.line.counters.cellsDelivered
          damagedCells := if damaged then Counter.inc s.line.counters.damagedCells else s.line.counters.damagedCells } }
      classifier := { s.classifier with
        input := s.classifier.input ++ [.cell ⟨{ r.hdr with f := damaged }, payload.map RxByte.data⟩ r.arrival] } } := by
  have whole : ¬ payload.length ≠ Config.payloadBytes := not_not.mpr hp
  subst hd
  simp only [exec, execCellDelivery, hr, if_neg whole, if_neg ht]
  rfl

end

end Sys2Proof.Machine

namespace Sys2Proof.Proofs

open Sys2Proof.Machine Sys2Proof.Safety

/-- Settles O10: what a delivery does goes by the tag and the damage marking, and the marking is set for a damaged cell alone. -/
theorem cellDelivered : Obligations.CellDelivered := by
  unfold Obligations.CellDelivered
  refine fun s r payload hr hp => ⟨exec_cellDelivery_filler hr hp, fun ht hd => ?_, fun ht hd => ?_⟩
  · exact exec_cellDelivery_cell hr hp ht (Bool.eq_false_iff.mpr (mt (r.damaged_iff payload).mp hd))
  · exact exec_cellDelivery_cell hr hp ht ((r.damaged_iff payload).mpr hd)

end Sys2Proof.Proofs
end

section
/-! PROOF. Steps 1 to 3 of R142, IDENTIFY and OPEN, and the commands of the session itself (O35, O37, O38). -/

namespace Sys2Proof.Machine

open Sys2Proof.Safety

variable {s : State} {code : Byte} {c : Command} {rest : List Cell} {x : Session}

/-! ### Which request a command makes (R142, R206) -/

/-- The command of a code is the Agent's step on a request. -/
def Makes (i : Instr) (code : Byte) {α : Type} (r : Request α) : Prop := ∀ s, exec i s = .next (s.sessionCommand code r)

/-- Each of the 32 session commands makes a request of its own. -/
theorem sessionCommands_make : ∀ row ∈ sessionCommands, ∃ (α : Type) (r : Request α), Makes row.1 row.2 r := by
  have made {i : Instr} {code : Byte} {α : Type} (r : Request α) (h : Makes i code r) : ∃ (α : Type) (r : Request α), Makes i code r :=
    ⟨α, r, h⟩
  simp only [sessionCommands, List.forall_mem_cons]
  exact ⟨made closeRequest fun _ => rfl, made pingRequest fun _ => rfl, made statusRequest fun _ => rfl,
    made mapPutRequest fun _ => rfl, made mapRemoveRequest fun _ => rfl, made mapClearRequest fun _ => rfl,
    made mapCopyRequest fun _ => rfl, made mapDefaultRequest fun _ => rfl, made mapReadRequest fun _ => rfl,
    made commitRequest fun _ => rfl, made commitCancelRequest fun _ => rfl, made ctxArmRequest fun _ => rfl,
    made ctxDisarmRequest fun _ => rfl, made storeReadRequest fun _ => rfl, made storeReleaseRequest fun _ => rfl,
    made slotDefineRequest fun _ => rfl, made slotWriteRequest fun _ => rfl, made slotPublishRequest fun _ => rfl,
    made slotStartRequest fun _ => rfl, made slotStopRequest fun _ => rfl, made slotClearRequest fun _ => rfl,
    made slotQueryRequest fun _ => rfl, made pauseRequest fun _ => rfl, made resumeRequest fun _ => rfl,
    made condReadRequest fun _ => rfl, made condAckRequest fun _ => rfl, made countReadRequest fun _ => rfl,
    made countClearRequest fun _ => rfl, made configSetRequest fun _ => rfl, made configGetRequest fun _ => rfl,
    made tagsSetRequest fun _ => rfl, made restartRequest fun _ => rfl, List.forall_mem_nil _⟩

/-- A command of a code that is no command's is judged as a session command of that code (R142). -/
theorem exec_unknownCommand (h : Takes s code c rest) (hcode : code ∉ commandCodes) :
    exec .unknownCommand s = .next (s.sessionCommand code unknownRequest) := by
  have unknown : (!commandCodes.contains c.code) = true := by simpa [h.coded] using hcode
  have taken : s.sessionCommandOf (fun code => !commandCodes.contains code) unknownRequest
      = ((s.unqueued rest).judge c unknownRequest).getD s := by
    simp only [State.sessionCommandOf, State.nextCommand_takes h, unknown, if_true]
  exact congrArg Host.Outcome.next (taken.trans (State.sessionCommand_judge code unknownRequest h).symm)

/-! ### IDENTIFY (R146, R175) -/

theorem exec_identify (h : Takes s 0x11 c rest) : exec .identify s = .next (answered s c rest (doneWith identifyResult)) := by
  simp only [exec, execIdentify, State.nextCommand_takes h, h.coded, if_true, State.replyOutside_unqueued]

/-! ### OPEN (R138 to R140, R176) -/

theorem exec_openSession (h : Takes s 0x12 c rest) : exec .openSession s = .next ((s.unqueued rest).judgeOpen c) := by
  simp only [exec, execOpen, State.nextCommand_takes h, h.coded, if_true]

theorem State.openReply_unqueued : (s.unqueued rest).openReply c = opened s c rest s.agent.noticeNo := rfl

theorem State.openReply_oweAll : (s.unqueued rest).oweAll.openReply c = opened (owedAll s) c rest 0 := rfl

theorem State.judgeOpen_closed (h : s.endIfExpired.agent.session = none) : s.judgeOpen c = s.endIfExpired.oweAll.openReply c := by
  simp only [State.judgeOpen, h]

section

variable (hs : s.agent.session = some x) (ha : reached s.lt x.deadline = false)

include hs ha

theorem State.judgeOpen_notOwner (hn : c.session ≠ x.number) :
    s.judgeOpen c = s.replyOutside c (refusedWith .notOwner (beBytes 4 (timeLeft s.lt x.deadline))) := by
  simp only [State.judgeOpen, State.endIfExpired_alive hs ha, hs]
  exact if_pos hn

theorem State.judgeOpen_repeat (hn : c.session = x.number) (hq : c.seq = x.expected - 1) : s.judgeOpen c = s.answerRepeat x := by
  simp only [State.judgeOpen, State.endIfExpired_alive hs ha, hs]
  rw [if_neg (not_not.2 hn), if_pos hq]

theorem State.judgeOpen_resync (hn : c.session = x.number) (hq : c.seq ≠ x.expected - 1) : s.judgeOpen c = s.openReply c := by
  simp only [State.judgeOpen, State.endIfExpired_alive hs ha, hs]
  rw [if_neg (not_not.2 hn), if_neg hq]

end

/-! ### STATUS (R179, R207) -/

theorem opBytes_eq (l : LongOp) : opBytes l =
    [l.stateByte] ++ optBytes 1 (fun k => [OpKind.toByte k]) l.kind ++ optBytes 1 (fun q => [q]) l.seq
      ++ optBytes 1 (fun o => [OpOutcome.toByte o]) l.outcome := by
  cases l <;> rfl

theorem recordStatus_eq (s : State) (r : Fin 4) : s.capture.recordStatus r = recordBytes s r := by
  simp only [Capture.recordStatus, Capture.position, recordBytes, flagByte]
  cases s.capture.filing.findIdx? (fun y => y = r) <;> rfl

theorem occupancy_eq (a : Capture) : a.occupancy = recordNumbers.countP fun r => a.store[r].isSome :=
  List.countP_eq_length_filter.symm

theorem beBytes_one (n : Nat) : beBytes 1 n = [BitVec.ofNat 8 n] := by simp [beBytes]

/-- What STATUS reports once the command has left the queue and E is advanced. -/
theorem statusResult_taken (s : State) (rest : List Cell) (x : Session) :
    statusResult (s.taken rest x) = statusBytes s (x.expected + 1) rest.length := by
  have records : recordNumbers.flatMap s.capture.recordStatus
      = recordBytes s 0 ++ recordBytes s 1 ++ recordBytes s 2 ++ recordBytes s 3 := by
    simp only [recordNumbers, List.flatMap_cons, List.flatMap_nil, recordStatus_eq, List.append_nil, List.append_assoc]
  unfold statusResult statusBytes
  simp only [State.taken, records, opBytes_eq, occupancy_eq, beBytes_one, countBytes, tagBytes, List.append_assoc]
  cases s.map.pendingCommit <;> rfl

end Sys2Proof.Machine

namespace Sys2Proof.Proofs

open Sys2Proof.Machine Sys2Proof.Safety

/-- Settles O35: every such command makes some request, and steps 1 to 3 answer before they look at it. -/
theorem stepsOneToThree : Obligations.StepsOneToThree := by
  unfold Obligations.StepsOneToThree
  intro i code hi s c rest h
  obtain ⟨α, r, hr⟩ : ∃ (α : Type) (r : Request α), exec i s = .next (s.sessionCommand code r) := by
    rcases hi with hi | ⟨rfl, hcode⟩
    · obtain ⟨α, r, hr⟩ := sessionCommands_make _ hi
      exact ⟨α, r, hr s⟩
    · exact ⟨Unit, unknownRequest, exec_unknownCommand h hcode⟩
  rw [hr]
  refine ⟨fun hs => congrArg _ (State.sessionCommand_noSession r h hs), fun x hs => ⟨fun hd => congrArg _ ?_, fun hd hn => congrArg _ ?_,
    fun hd hn hq => congrArg _ ?_, fun hd hn h1 h2 => congrArg _ ?_⟩⟩
  · exact State.sessionCommand_expired r h hs hd
  · exact State.sessionCommand_notOwner r h hs hd hn
  · exact State.sessionCommand_repeat r h hs hd hn hq
  · exact State.sessionCommand_outOfOrder r h hs hd hn h1 h2

/-- Settles O37: IDENTIFY does not look at the session; OPEN goes by the session, its number and the sequence. -/
theorem identifyAndOpen : Obligations.IdentifyAndOpen := by
  unfold Obligations.IdentifyAndOpen
  refine ⟨fun s c rest h => exec_identify h, fun s c rest h => ?_⟩
  have judged {t : State} (ht : (s.unqueued rest).judgeOpen c = t) : exec .openSession s = .next t := ht ▸ exec_openSession h
  refine ⟨fun hs => judged ?_, fun x hs => ⟨fun hd => judged ?_, fun hd hn => judged ?_, fun hd hn hq => judged ?_,
    fun hd hn hq => judged ?_⟩⟩
  · have still : (s.unqueued rest).endIfExpired = s.unqueued rest := State.endIfExpired_none hs
    rw [State.judgeOpen_closed (by rw [still]; exact hs), still, State.openReply_oweAll]
  · have ends : (s.unqueued rest).endIfExpired = (ended s).unqueued rest := State.endIfExpired_reached (x := x) hs hd
    rw [State.judgeOpen_closed (by rw [ends]; rfl), ends, State.openReply_oweAll]
  · rw [State.judgeOpen_notOwner (s := s.unqueued rest) (x := x) hs hd hn, State.replyOutside_unqueued]
    rfl
  · rw [State.judgeOpen_repeat (s := s.unqueued rest) (x := x) hs hd hn hq, State.answerRepeat_unqueued]
  · rw [State.judgeOpen_resync (s := s.unqueued rest) (x := x) hs hd hn hq, State.openReply_unqueued]

/-- Settles O38: the four requests leave the state as it is; CLOSE ends the session behind its reply. -/
theorem closePingStatusUnknown : Obligations.ClosePingStatusUnknown := by
  unfold Obligations.ClosePingStatusUnknown
  intro s c rest x
  have run {code : Byte} {a : Answer} (r : Request Unit) (h : InSequence s code c rest x) (hp : r.parse c.args = .ok ())
      (hr : r.ready () (s.unqueued rest) = true) (hact : r.act c () (s.taken rest x) = (a, s.taken rest x)) :
      s.sessionCommand code r = r.after (executed s s c rest x a (r.mark ())) :=
    State.sessionCommand_act r h hp hr hact rfl
  refine ⟨fun h => ?_, fun h => ?_, fun h => ?_, fun code hcode h => ?_⟩
  · exact congrArg _ (run closeRequest h rfl rfl rfl)
  · exact congrArg _ (run pingRequest h rfl rfl rfl)
  · rw [← statusResult_taken]
    exact congrArg _ (run statusRequest h rfl rfl rfl)
  · rw [exec_unknownCommand h.toTakes hcode]
    exact congrArg _ (run unknownRequest h rfl rfl rfl)

end Sys2Proof.Proofs
end

section
/-! PROOF. TAGS_SET, executed in R155's order, and RESTART, executed (O52). -/

namespace Sys2Proof.Machine

open Sys2Proof.Safety

/-! ### What a TAGS_SET clashes with (R155) -/

section

variable {s : State} {cmd reply : Tag}

theorem tagsClash_unusable (h : cmd = reply ∨ cmd = 0 ∨ reply = 0) : tagsClash s cmd reply = some [8, 0, 0] :=
  if_pos h

section

variable (hne : cmd ≠ reply) (hc : cmd ≠ 0) (hr : reply ≠ 0)

include hne hc hr

/-- Tags that differ and are not 0 clash by the active bank and the slots alone. -/
theorem tagsClash_usable : tagsClash s cmd reply =
    match s.map.activeBank.find cmd with
    | some e => some (conflictBytes .commandTag e.fields.inputTag.toNat)
    | none =>
      match s.map.activeBank.forwarder reply with
      | some e => some (conflictBytes .activeEntry e.fields.inputTag.toNat)
      | none => (s.carousel.holder reply).map fun i => conflictBytes .activeSlot i.val :=
  if_neg (not_or.mpr ⟨hne, not_or.mpr ⟨hc, hr⟩⟩)

theorem tagsClash_command {e : Entry} (h : s.map.activeBank.find cmd = some e) :
    tagsClash s cmd reply = some ([4] ++ beBytes 2 cmd.toNat) := by
  simp only [tagsClash_usable hne hc hr, h, (Bank.find_some h).2]
  rfl

theorem tagsClash_entry (hfree : s.map.activeBank.find cmd = none) (hn : (outputTags s).Nodup) {e : Entry}
    (he : e ∈ s.map.activeBank.entries) (hf : e.fields.forwards = true) (ht : e.fields.effectiveTag = reply) :
    tagsClash s cmd reply = some ([6] ++ beBytes 2 e.fields.inputTag.toNat) := by
  rw [outputTags_eq] at hn
  subst ht
  simp only [tagsClash_usable hne hc hr, hfree, Bank.forwarder_of_mem hn.of_append_left he hf]
  rfl

theorem tagsClash_slot (hfree : s.map.activeBank.find cmd = none) (hn : (outputTags s).Nodup) {j : Fin 16}
    (hj : slotTag s.carousel.slots[j] = some reply) : tagsClash s cmd reply = some [7, 0, BitVec.ofNat 8 j.val] := by
  rw [outputTags_eq, List.nodup_append, List.nodup_cons] at hn
  obtain ⟨-, ⟨-, hslots⟩, apart⟩ := hn
  have assigned : reply ∈ s.carousel.assigned.map Prod.snd := (Carousel.mem_assigned_tags _ _).mpr ⟨j, hj⟩
  have unforwarded : s.map.activeBank.forwarder reply = none :=
    (Bank.forwarder_eq_none_iff _ _).mpr fun h => apart _ h _ (List.mem_cons_of_mem _ assigned) rfl
  simp only [tagsClash_usable hne hc hr, hfree, unforwarded, Carousel.holder_of_slotTag hslots hj, Option.map_some,
    conflictBytes_activeSlot]

/-- Tags that no entry and no slot assigns clash with nothing. -/
theorem tagsClash_unassigned (hfree : s.map.activeBank.find cmd = none)
    (he : ∀ e ∈ s.map.activeBank.entries, e.fields.forwards = true → e.fields.effectiveTag ≠ reply)
    (hj : ∀ j : Fin 16, slotTag s.carousel.slots[j] ≠ some reply) : tagsClash s cmd reply = none := by
  have unforwarded : s.map.activeBank.forwarder reply = none := by
    refine (Bank.forwarder_eq_none_iff _ _).mpr fun h => ?_
    obtain ⟨f, hf, hforwards, ht⟩ := (mem_forwardTags _ _).mp h
    obtain ⟨e, hmem, rfl⟩ := List.mem_map.mp hf
    exact he e hmem hforwards ht
  simp only [tagsClash_usable hne hc hr, hfree, unforwarded, (Carousel.holder_eq_none_iff _ _).mpr hj, Option.map_none]

end

end

/-! ### The two requests (R156, R157) -/

section

variable {s : State} {c : Command} {rest : List Cell} {x : Session} {cmd reply : Tag}

theorem tagsSet_clash {r : List Byte} (h : InSequence s 0x73 c rest x)
    (hp : tagsSetRequest.parse c.args = .ok (cmd, reply)) (hr : tagsClash s cmd reply = some r) :
    exec .tagsSet s = .next (executed s s c rest x ⟨.refused, .conflict, r⟩) := by
  have hact : tagsSetRequest.act c (cmd, reply) (s.taken rest x) = (refusedWith .conflict r, s.taken rest x) := by
    have clash : tagsClash (s.taken rest x) cmd reply = some r := hr
    simp only [tagsSetRequest, clash]
  exact congrArg Host.Outcome.next (State.sessionCommand_act tagsSetRequest h hp rfl hact rfl)

/-- Both tags are set, and the reply, with the old ones, goes out under the old reply tag. -/
theorem tagsSet_done (h : InSequence s 0x73 c rest x) (hp : tagsSetRequest.parse c.args = .ok (cmd, reply))
    (hr : tagsClash s cmd reply = none) : exec .tagsSet s =
      .next (executed s { s with agent := { s.agent with cmdTag := cmd, replyTag := reply } } c rest x
        ⟨.done, .none, beBytes 2 s.agent.cmdTag.toNat ++ beBytes 2 s.agent.replyTag.toNat⟩) := by
  have hact : tagsSetRequest.act c (cmd, reply) (s.taken rest x) = (doneWith (tagBytes s.agent.cmdTag ++ tagBytes s.agent.replyTag),
      { s with agent := { s.agent with cmdTag := cmd, replyTag := reply } }.taken rest x) := by
    have noClash : tagsClash (s.taken rest x) cmd reply = none := hr
    simp only [tagsSetRequest, noClash]
    rfl
  exact congrArg Host.Outcome.next (State.sessionCommand_act tagsSetRequest h hp rfl hact rfl)

theorem exec_restart (h : InSequence s 0x74 c rest x) (kind : RestartKind) (extra : List Byte) (ha : c.args = kind.toByte :: extra) :
    exec .restart s = .next (executed s s c rest x (doneWith [kind.toByte]) (some kind)).enterRestarting := by
  have hp : restartRequest.parse c.args = .ok kind := ha ▸ oneArg_ok readRestart _ extra kind (readRestart_toByte kind extra)
  exact congrArg Host.Outcome.next (State.sessionCommand_act (u := s) restartRequest h hp rfl rfl rfl)

end

end Sys2Proof.Machine

namespace Sys2Proof.Proofs

open Sys2Proof.Machine Sys2Proof.Safety

/-- Settles O52: TAGS_SET by what its tags clash with, in R155's order; RESTART discards what waits behind it. -/
theorem tagsSetAndRestartExecuted : Obligations.TagsSetAndRestartExecuted := by
  unfold Obligations.TagsSetAndRestartExecuted
  refine ⟨fun s c rest x cmd reply extra h hargs => ?tags, fun s c rest x kind extra h hargs => exec_restart h kind extra hargs⟩
  have hp : tagsSetRequest.parse c.args = .ok (cmd, reply) :=
    hargs ▸ twoArgs_ok _ _ _ _ _ _ _ (readTagOrZero_tagBytes cmd _) (readTagOrZero_tagBytes reply extra)
  intro conflict
  have clash {r : List Byte} (hr : tagsClash s cmd reply = some r) : exec .tagsSet s = conflict r := tagsSet_clash h hp hr
  refine ⟨fun hbad => clash (tagsClash_unusable hbad), fun hne hc hr => ⟨fun e he => clash (tagsClash_command hne hc hr he),
    fun hfree hn => ⟨fun e he hf ht => ?_, fun j y hj hassigns ht => ?_⟩, fun hfree hentries hslots => ?_⟩⟩
  · exact clash (tagsClash_entry hne hc hr hfree hn he hf ht)
  · exact clash (tagsClash_slot hne hc hr hfree hn ((slotTag_eq_some _ _).mpr ⟨y, hj, hassigns, ht⟩))
  · refine tagsSet_done h hp (tagsClash_unassigned hne hc hr hfree hentries fun j hj => ?_)
    obtain ⟨y, hy, hassigns, ht⟩ := (slotTag_eq_some _ _).mp hj
    exact hslots j y hy hassigns ht

end Sys2Proof.Proofs
end

section
/-! PROOF. A command one of whose arguments fails is refused with the position of the first that fails (O36). -/

namespace Sys2Proof.Machine

open Sys2Proof.Safety

variable {α β γ : Type}

/-! ### Readers of a fixed width (R206) -/

/-- A reader takes `w` bytes, where there are as many, and gives the value of those bytes. -/
def FixedWidth (r : Reader α) (w : Nat) (value : List Byte → Option α) : Prop :=
  ∀ bs, r bs = if w ≤ bs.length then (value (bs.take w)).map (·, bs.drop w) else none

theorem FixedWidth.readBytes (n : Nat) : FixedWidth (readBytes n) n some := fun _ => rfl

theorem FixedWidth.readNat (n : Nat) : FixedWidth (readNat n) n fun own => some (beVal own) := by
  intro bs
  simp only [Machine.readNat, Machine.readBytes]
  split_ifs <;> rfl

theorem FixedWidth.readWhere {r : Reader α} {w : Nat} {value : List Byte → Option α} (h : FixedWidth r w value) (f : α → Option β) :
    FixedWidth (readWhere r f) w fun own => (value own).bind f := by
  intro bs
  rw [Machine.readWhere, h bs]
  split_ifs with hw
  · cases hv : value (bs.take w) <;> simp [hv]
  · rfl

/-- The value of an optional argument: its presence byte, then the bytes of the value (R173). -/
def optionalValue (value : List Byte → Option α) : List Byte → Option (Option α)
  | [] => none
  | presence :: bytes => if presence = 0 then some none else if presence = 1 then (value bytes).map some else none

theorem readOptional_cons (w : Nat) (r : Reader α) (b : Byte) (bs : List Byte) : readOptional w r (b :: bs) =
    if b = 0 then (readBytes w bs).map fun p => (none, p.2)
    else if b = 1 then (r bs).map fun p => (some p.1, p.2) else none := by
  split_ifs with h0 h1
  · subst h0
    rfl
  · subst h1
    rfl
  · rw [readOptional, readNat_byte]
    split
    · next h =>
      simp only [Option.some.injEq, Prod.mk.injEq] at h
      exact absurd (BitVec.eq_of_toNat_eq h.1) h0
    · next h =>
      simp only [Option.some.injEq, Prod.mk.injEq] at h
      exact absurd (BitVec.eq_of_toNat_eq h.1) h1
    · rfl

theorem FixedWidth.readOptional {r : Reader α} {w : Nat} {value : List Byte → Option α} (h : FixedWidth r w value) :
    FixedWidth (readOptional w r) (w + 1) (optionalValue value) := by
  intro bs
  cases bs with
  | nil => rfl
  | cons b bs =>
    rw [readOptional_cons, h bs, Machine.readBytes]
    simp only [List.length_cons, Nat.add_le_add_iff_right, List.take_succ_cons, List.drop_succ_cons, optionalValue]
    split_ifs <;> simp [Function.comp_def]

/-- The presence byte of an optional argument says whether its value is there. -/
theorem optionalValue_presence {value : List Byte → Option α} {own : List Byte} {o : Option α} (h : optionalValue value own = some o) :
    o.isNone = (own.getD 0 0 == 0) ∧ o.isSome = (own.getD 0 0 == 1) := by
  cases own with
  | nil => cases h
  | cons b bs =>
    simp only [optionalValue] at h
    split_ifs at h with h0 h1
    · cases h
      simp [h0]
    · obtain ⟨v, -, rfl⟩ := Option.map_eq_some_iff.mp h
      simp [h1]

/-! ### Arguments and the readers that read them (R173, R209) -/

/-- A reader takes the bytes of an argument, and takes a value from exactly those that the argument accepts. -/
structure ReadBy (a : Arg) (before : List Byte) (r : Reader α) (value : List Byte → Option α) : Prop where
  fixed : FixedWidth r (a.width before) value
  accepts : ∀ own, own.length = a.width before → a.accepts before own = (value own).isSome

variable {before : List Byte}

/-- The number that bytes carry, where it is within a range. -/
def rangeValue (lo hi : Nat) (own : List Byte) : Option Nat := if lo ≤ beVal own ∧ beVal own ≤ hi then some (beVal own) else none

theorem ReadBy.range (n lo hi : Nat) : ReadBy (.number n lo hi) before (readRange n lo hi) (rangeValue lo hi) := by
  refine ⟨(FixedWidth.readNat n).readWhere _, fun own _ => ?_⟩
  simp only [Arg.number, Arg.plain, rangeValue]
  split_ifs with h <;> simp [h]

/-- What is made of a value that another reader takes is taken from the same bytes. -/
theorem ReadBy.map {a : Arg} {r : Reader α} {value : List Byte → Option α} (h : ReadBy a before r value) (f : α → β) :
    ReadBy a before (readWhere r fun v => some (f v)) fun own => (value own).map f := by
  refine ⟨?_, fun own hw => by rw [h.accepts own hw, Option.isSome_map]⟩
  have mapped : (fun own => (value own).bind fun v => some (f v)) = fun own => (value own).map f :=
    funext fun own => by cases value own <;> rfl
  exact mapped ▸ h.fixed.readWhere _

theorem beVal_lt (bs : List Byte) : beVal bs < 256 ^ bs.length := by
  induction bs with
  | nil => decide
  | cons b bs ih =>
    have := b.isLt
    rw [beVal_cons, List.length_cons, pow_succ]
    nlinarith

/-- A number whose range is all that its bytes hold. -/
theorem ReadBy.whole {n hi : Nat} (h : 256 ^ n = hi + 1) :
    ReadBy (.number n 0 hi) before (readNat n) fun own => some (beVal own) := by
  refine ⟨FixedWidth.readNat n, fun own hw => ?_⟩
  have hlt := beVal_lt own
  rw [show own.length = n from hw, h] at hlt
  simp only [Arg.number, Arg.plain, Option.isSome_some, decide_eq_true_eq]
  omega

theorem ReadBy.index (hi : Nat) : ReadBy (.number 1 0 hi) before (readIndex (hi + 1))
    fun own => if h : beVal own < hi + 1 then some ⟨beVal own, h⟩ else none := by
  refine ⟨(FixedWidth.readNat 1).readWhere _, fun own _ => ?_⟩
  simp only [Arg.number, Arg.plain]
  split_ifs with h <;> simp <;> omega

/-- The value of a table whose code the bytes carry. -/
def codeValue (values : List α) (code : α → Byte) (own : List Byte) : Option α := values.find? fun x => (code x).toNat = beVal own

theorem codeValue_own {values : List α} {code : α → Byte} {own : List Byte} {x : α} (hw : own.length = 1)
    (h : codeValue values code own = some x) : own = [code x] := by
  obtain ⟨b, rfl⟩ := List.length_eq_one_iff.mp hw
  have : (code x).toNat = b.toNat := by simpa [beVal] using List.find?_some h
  rw [BitVec.eq_of_toNat_eq this]

/-- A table whose codes are the numbers from `lo` to `hi` (R209). -/
theorem ReadBy.code {values : List α} {code : α → Byte} {lo hi : Nat}
    (h : values.map (fun x => (code x).toNat) = List.range' lo (hi + 1 - lo)) :
    ReadBy (.number 1 lo hi) before (readCode values code) (codeValue values code) := by
  refine ⟨(FixedWidth.readNat 1).readWhere _, fun own _ => ?_⟩
  have coded : (∃ x ∈ values, (code x).toNat = beVal own) ↔ lo ≤ beVal own ∧ beVal own ≤ hi := by
    rw [← List.mem_map, h, List.mem_range'_1]
    omega
  rw [Bool.eq_iff_iff]
  simp only [Arg.number, Arg.plain, decide_eq_true_eq, ← coded, codeValue, List.find?_isSome]

theorem optionalIn_eq {w lo hi : Nat} {r : Reader α} {value : List Byte → Option α} (h : ReadBy (.number w lo hi) [] r value)
    {own : List Byte} (hw : own.length = w + 1) : optionalIn lo hi own = (optionalValue value own).isSome := by
  cases own with
  | nil => cases hw
  | cons b bs =>
    have accepts : decide (lo ≤ beVal bs ∧ beVal bs ≤ hi) = (value bs).isSome := h.accepts bs (Nat.succ.inj hw)
    rw [optionalIn, optionalValue, accepts]
    split_ifs with h0 h1
    · simp [h0]
    · simp [h1]
    · have b0 : (b == 0) = false := beq_eq_false_iff_ne.mpr h0
      have b1 : (b == 1) = false := beq_eq_false_iff_ne.mpr h1
      simp only [b0, b1, Bool.false_and, Bool.or_self, Option.isSome_none]

theorem ReadBy.optional {w lo hi : Nat} {r : Reader α} {value : List Byte → Option α} (h : ReadBy (.number w lo hi) [] r value) :
    ReadBy (.plain (w + 1) (optionalIn lo hi)) before (readOptional w r) (optionalValue value) :=
  ⟨h.fixed.readOptional, fun _ hw => optionalIn_eq h hw⟩

theorem ReadBy.tag : ReadBy (.number 2 1 4095) before readTag fun own => (rangeValue 1 4095 own).map (BitVec.ofNat 12) :=
  (ReadBy.range 2 1 4095).map _

theorem ReadBy.flag : ReadBy (.number 1 0 1) before readFlag fun own => (rangeValue 0 1 own).map fun v => decide (v = 1) :=
  (ReadBy.range 1 0 1).map _

/-- An argument whose width and range depend on the arguments before it, where it is as another one. -/
theorem ReadBy.congr {a a' : Arg} {before' : List Byte} {r : Reader α} {value : List Byte → Option α} (h : ReadBy a before r value)
    (width : a'.width before' = a.width before) (accepts : ∀ own, a'.accepts before' own = a.accepts before own) :
    ReadBy a' before' r value :=
  ⟨width ▸ h.fixed, fun own hw => (accepts own).trans (h.accepts own (hw.trans width))⟩

/-! ### Argument lists and the parsers that read them (R173, R174) -/

/-- Where an argument of the list fails, the parser fails with the position of the first that does. -/
def Refuses (as : List Arg) (pos : Nat) (before : List Byte) (parse : List Byte → Except Nat α) : Prop :=
  ∀ bs bad, firstBad as pos before bs = some bad → parse bs = .error bad

theorem Refuses.nil {pos : Nat} {parse : List Byte → Except Nat α} : Refuses [] pos before parse := fun _ _ h => nomatch h

section

variable {a : Arg} {as : List Arg} {pos : Nat} {r : Reader α} {value : List Byte → Option α} {k : α × List Byte → Except Nat β}

/-- An argument read under a constraint that is held against it. -/
theorem Refuses.constrained (ok : α → Bool) (fixed : FixedWidth r (a.width before) value)
    (accepts : ∀ own, own.length = a.width before → a.accepts before own = (value own).any ok)
    (broken : ∀ x bs, ok x = false → k (x, bs) = .error pos)
    (more : ∀ own x, own.length = a.width before → value own = some x → ok x = true →
      Refuses as (pos + 1) (before ++ own) fun bs => k (x, bs)) :
    Refuses (a :: as) pos before fun bs => argument pos r bs >>= k := by
  intro bs bad h
  simp only [firstBad] at h
  by_cases hw : a.width before ≤ bs.length
  · have hlen : (bs.take (a.width before)).length = a.width before := List.length_take_of_le hw
    have hread := fixed bs
    rw [if_pos hw] at hread
    rw [accepts _ hlen] at h
    cases hv : value (bs.take (a.width before)) with
    | none =>
      simp only [hv, Option.any_none, or_true, if_true, Option.some.injEq] at h
      simp only [argument, hread, hv, Option.map_none, h]
      rfl
    | some x =>
      have hread' : argument pos r bs = .ok (x, bs.drop (a.width before)) := argument_ok _ _ _ _ _ (by rw [hread, hv]; rfl)
      simp only [hv, Option.any_some, Nat.not_lt.mpr hw, false_or] at h
      simp only [hread']
      cases hok : ok x with
      | false =>
        simp only [hok, if_true, Option.some.injEq] at h
        exact h ▸ broken x _ hok
      | true =>
        simp only [hok, Bool.true_eq_false, if_false] at h
        exact more _ x hlen hv hok _ bad h
  · have hread := fixed bs
    rw [if_neg hw] at hread
    simp only [Nat.not_le.mp hw, true_or, if_true, Option.some.injEq] at h
    simp only [argument, hread, h]
    rfl

/-- An argument read by its reader. -/
theorem Refuses.read (h : ReadBy a before r value)
    (more : ∀ own x, own.length = a.width before → value own = some x →
      Refuses as (pos + 1) (before ++ own) fun bs => k (x, bs)) :
    Refuses (a :: as) pos before fun bs => argument pos r bs >>= k :=
  .constrained (fun _ => true) h.fixed (fun own hw => by rw [h.accepts own hw]; cases value own <;> rfl) (fun _ _ h => nomatch h)
    fun own x hw hv _ => more own x hw hv

/-- An argument that is not read. -/
theorem Refuses.unread {parse : List Byte → Except Nat β} (width : a.width before = 0) (accepts : a.accepts before [] = true)
    (more : Refuses as (pos + 1) before parse) : Refuses (a :: as) pos before parse := by
  intro bs bad h
  simp only [firstBad, width, List.take_zero, accepts, Nat.not_lt_zero, Bool.true_eq_false, or_self, if_false, List.append_nil,
    List.drop_zero] at h
  exact more bs bad h

end

section

variable {a b c : Arg} {r : Reader α} {q : Reader β} {p : Reader γ} {v : List Byte → Option α} {w : List Byte → Option β}
  {u : List Byte → Option γ}

theorem Refuses.oneArg (h : ReadBy a [] r v) : Refuses [a] 1 [] (oneArg r) := by
  have bound : Machine.oneArg r = fun bs => argument 1 r bs >>= fun p => .ok p.1 := by
    funext bs
    rw [Machine.oneArg]
    cases argument 1 r bs <;> rfl
  exact bound ▸ .read h fun _ _ _ _ => .nil

theorem Refuses.twoArgs (h1 : ReadBy a [] r v) (h2 : ∀ before, ReadBy b before q w) : Refuses [a, b] 1 [] (twoArgs r q) :=
  .read h1 fun _ _ _ _ => .read (h2 _) fun _ _ _ _ => .nil

theorem Refuses.threeArgs (h1 : ReadBy a [] r v) (h2 : ∀ before, ReadBy b before q w) (h3 : ∀ before, ReadBy c before p u) :
    Refuses [a, b, c] 1 [] (threeArgs r q p) :=
  .read h1 fun _ _ _ _ => .read (h2 _) fun _ _ _ _ => .read (h3 _) fun _ _ _ _ => .nil

end

/-! ### The commands' argument lists (R180 to R202) -/

theorem constraint_broken_bind {pos : Nat} {b : Bool} {k : Unit → Except Nat α} (h : b = false) :
    (constraint pos b >>= k) = .error pos := by
  rw [h]
  rfl

/-- A constraint that is met leaves the arguments behind it. -/
theorem Refuses.met {as : List Arg} {pos pos' : Nat} {b : Bool} {k : List Byte → Except Nat α} (h : b = true)
    (more : Refuses as pos before k) : Refuses as pos before fun bs => constraint pos' b >>= fun _ => k bs := by
  rw [h]
  exact more

/-- An optional argument under a test that its presence byte decides. -/
theorem optionalValue_any {value : List Byte → Option α} {own : List Byte} {test : Option α → Bool} {byte : Bool}
    (h : ∀ o, optionalValue value own = some o → test o = byte) :
    (optionalValue value own).any test = ((optionalValue value own).isSome && byte) := by
  cases ho : optionalValue value own with
  | none => rfl
  | some o => simp only [Option.any_some, Option.isSome_some, Bool.true_and, h o ho]

theorem action_forwards_byte (a : Action) : (a == .forward || a == .forwardCapture) = (a.toByte == 1 || a.toByte == 3) := by
  cases a <;> rfl

theorem action_captures_byte (a : Action) : (a == .capture || a == .forwardCapture) = (a.toByte == 2 || a.toByte == 3) := by
  cases a <;> rfl

/-- MAP_PUT: the action's byte decides both constraints, on the presence bytes of arguments 3 and 9 (R180). -/
theorem Refuses.mapPut : Refuses mapPutArguments 1 [] mapPutArgs := by
  refine .read .tag fun tag _ htag _ => .read (.code rfl) fun code action hcode haction => ?_
  obtain ⟨t1, t0, rfl⟩ := List.length_eq_two.mp htag
  obtain rfl := codeValue_own hcode haction
  refine .constrained (fun out => out.isNone || action == .forward || action == .forwardCapture)
    (ReadBy.tag (before := [])).fixed.readOptional (fun own hown => ?out) (fun out bs hok => constraint_broken_bind hok)
    fun out _ hout _ hok => .met hok ?_
  case out =>
    rw [optionalValue_any fun o ho => by rw [Bool.or_assoc, (optionalValue_presence ho).1, action_forwards_byte],
      ← optionalIn_eq .tag hown, ← Bool.or_assoc]
    rfl
  refine .read (.code rfl) fun _ _ _ _ => .read .flag fun _ _ _ _ => .read (.code rfl) fun _ _ _ _ => .read (.code rfl) fun _ _ _ _ =>
    .read (.optional (.range 4 250 2500000)) fun _ _ _ _ =>
    .constrained (fun ctx : Option (Fin 8) => ctx.isSome == (action == .capture || action == .forwardCapture))
      (ReadBy.index 7 (before := [])).fixed.readOptional (fun own hown => ?ctx) (fun ctx bs hok => constraint_broken_bind hok)
      fun _ _ _ _ _ => .nil
  case ctx =>
    rw [optionalValue_any fun o ho => by rw [(optionalValue_presence ho).2, action_captures_byte], ← optionalIn_eq (.index 7) hown]
    rfl

theorem Refuses.slotDefine : Refuses [.number 1 0 15, .number 2 1 4095, .number 1 0 255, .number 1 0 31, .number 2 10 10000] 1 []
    slotDefineArgs :=
  .read (.index 15) fun _ _ _ _ => .read .tag fun _ _ _ _ => .read (.whole rfl) fun _ _ _ _ => .read (.range 1 0 31) fun _ _ _ _ =>
    .read (.range 2 10 10000) fun _ _ _ _ => .nil

theorem rangeValue_eq {lo hi n : Nat} {own : List Byte} (h : rangeValue lo hi own = some n) : beVal own = n := by
  unfold rangeValue at h
  split_ifs at h
  exact Option.some.inj h

theorem rangeValue_any (lo hi : Nat) (own : List Byte) (test : Nat → Bool) :
    (rangeValue lo hi own).any test = (decide (lo ≤ beVal own ∧ beVal own ≤ hi) && test (beVal own)) := by
  unfold rangeValue
  split_ifs with h <;> simp [h]

/-- SLOT_WRITE: offset + count is held against the count, and count bytes follow (R191). -/
theorem Refuses.slotWrite : Refuses slotWriteArguments 1 [] slotWriteArgs := by
  refine .read (.index 15) fun slot _ hslot _ => .read (.range 2 0 2039) fun own offset hown hoffset => ?_
  obtain ⟨b, rfl⟩ := List.length_eq_one_iff.mp hslot
  obtain ⟨o1, o0, rfl⟩ := List.length_eq_two.mp hown
  obtain rfl := rangeValue_eq hoffset
  refine .constrained (fun count => decide (beVal [o1, o0] + count ≤ Config.bodyBytes)) (ReadBy.range 1 1 100 (before := [])).fixed
    (fun own _ => ?_) (fun count bs hok => constraint_broken_bind hok) fun own count hcount hvalue hok => .met hok ?_
  · rw [rangeValue_any, ← Bool.decide_and]
    exact decide_eq_decide.mpr and_assoc.symm
  · obtain rfl := rangeValue_eq hvalue
    exact .read ⟨.readBytes _, fun _ _ => rfl⟩ fun _ _ _ _ => .nil

theorem Refuses.storeRead : Refuses [.number 1 0 3, .plain 2 fun own => decide (beVal own ≤ 2040 ∨ beVal own = 65535)] 1 []
    (Machine.twoArgs (readIndex 4) readOffset) := by
  refine .twoArgs (.index 3) fun before => ⟨(FixedWidth.readNat 2).readWhere _, fun own _ => ?_⟩
  simp only [Arg.plain, Option.bind_some, Config.bodyBytes, Config.descriptionOffset]
  split_ifs with h <;> simp [h]

/-- COUNT_READ's first argument: any group but the entry group (R198). -/
theorem ReadBy.countGroup : ReadBy (.plain 1 fun own => decide (1 ≤ beVal own ∧ beVal own ≤ 8 ∧ beVal own ≠ 5)) before
    (readWhere readGroup fun g => if g = .entry then none else some g)
    fun own => (codeValue [.input, .output, .bankA, .bankB, .entry, .contexts, .slots, .agent] CounterGroup.toByte own).bind
      fun g => if g = .entry then none else some g := by
  have group : ReadBy (.number 1 1 8) before readGroup _ := .code rfl
  refine ⟨group.fixed.readWhere _, fun own hw => ?_⟩
  have coded := group.accepts own hw
  cases hg : codeValue [.input, .output, .bankA, .bankB, .entry, .contexts, .slots, .agent] CounterGroup.toByte own with
  | none =>
    rw [hg] at coded
    have outside : ¬ (1 ≤ beVal own ∧ beVal own ≤ 8) := of_decide_eq_false coded
    exact decide_eq_false fun h => outside ⟨h.1, h.2.1⟩
  | some g =>
    obtain rfl := codeValue_own hw hg
    cases g <;> rfl

/-- COUNT_READ: the part is read for the groups of two parts only (R198). -/
theorem Refuses.countRead : Refuses countReadArguments 1 [] countReadArgs := by
  refine .read .countGroup fun own group hown hgroup => ?_
  obtain ⟨g, hg, hkept⟩ := Option.bind_eq_some_iff.mp hgroup
  obtain rfl := codeValue_own hown hg
  split_ifs at hkept with hentry
  obtain rfl := Option.some.inj hkept
  cases g with
  | entry => exact absurd rfl hentry
  | contexts | slots =>
    exact .read (.congr (.range 1 0 1 (before := [])) rfl fun _ => decide_eq_decide.mpr (and_iff_right (Nat.zero_le _)).symm)
      fun _ _ _ _ => .nil
  | _ => exact .unread rfl rfl .nil

/-- COUNT_CLEAR: bank and input tag are read for the entry group only (R199). -/
theorem Refuses.countClear : Refuses countClearArguments 1 [] countClearArgs := by
  refine .read (.code rfl) fun own group hown hgroup => ?_
  obtain rfl := codeValue_own hown hgroup
  cases group with
  | entry =>
    have bank : ReadBy (.number 1 0 1) [] readBank _ := .code rfl
    exact .read (.congr bank rfl fun _ => decide_eq_decide.mpr (and_iff_right (Nat.zero_le _)).symm) fun _ _ _ _ =>
      .read (.congr (.tag (before := [])) rfl fun _ => decide_eq_decide.mpr (forall_prop_of_true rfl)) fun _ _ _ _ => .nil
  | _ => exact .unread rfl rfl (.unread rfl rfl .nil)

theorem SettingItem.range_byte (i : SettingItem) : itemRange (beVal [i.toByte]) = i.range := by
  cases i <;> rfl

/-- CONFIG_SET: the range of the value is its item's (R171, R200). -/
theorem Refuses.configSet : Refuses configSetArguments 1 [] configSetArgs := by
  refine .read (.code rfl) fun own item hown hitem => ?_
  obtain rfl := codeValue_own hown hitem
  refine .read (.congr (.range 4 item.range.1 item.range.2 (before := [])) rfl fun own => ?_) fun _ _ _ _ => .nil
  simp only [List.nil_append, SettingItem.range_byte]
  rfl

/-! ### The table of the commands with arguments -/

/-- A command of a code makes a request whose arguments are those of a list. -/
def MakesWith (i : Instr) (code : Byte) (as : List Arg) : Prop :=
  ∃ (α : Type) (r : Request α), Makes i code r ∧ Refuses as 1 [] r.parse

theorem argumentTable_make : ∀ row ∈ argumentTable, MakesWith row.1 row.2.1 row.2.2 := by
  have made {i : Instr} {code : Byte} {as : List Arg} {α : Type} (r : Request α) (hm : Makes i code r) (hr : Refuses as 1 [] r.parse) :
      MakesWith i code as := ⟨α, r, hm, hr⟩
  simp only [argumentTable, List.forall_mem_cons]
  exact ⟨made mapPutRequest (fun _ => rfl) .mapPut,
    made mapRemoveRequest (fun _ => rfl) (.oneArg .tag),
    made mapDefaultRequest (fun _ => rfl) (.oneArg (.code rfl)),
    made mapReadRequest (fun _ => rfl) (.twoArgs (.code rfl) fun _ => .tag),
    made commitRequest (fun _ => rfl) (.oneArg (.optional (.map (.whole rfl) _))),
    made ctxArmRequest (fun _ => rfl) (.threeArgs (.index 7) (fun _ => .map (.range 2 0 256) _) fun _ => .code rfl),
    made ctxDisarmRequest (fun _ => rfl) (.oneArg (.index 7)),
    made storeReadRequest (fun _ => rfl) .storeRead,
    made storeReleaseRequest (fun _ => rfl) (.oneArg (.index 3)),
    made slotDefineRequest (fun _ => rfl) .slotDefine,
    made slotWriteRequest (fun _ => rfl) .slotWrite,
    made slotPublishRequest (fun _ => rfl) (.threeArgs (.index 15) (fun _ => .range 2 0 2040) fun _ => .flag),
    made slotStartRequest (fun _ => rfl) (.oneArg (.index 15)),
    made slotStopRequest (fun _ => rfl) (.oneArg (.index 15)),
    made slotClearRequest (fun _ => rfl) (.oneArg (.index 15)),
    made slotQueryRequest (fun _ => rfl) (.oneArg (.index 15)),
    made condAckRequest (fun _ => rfl) (.oneArg (.code rfl)),
    made countReadRequest (fun _ => rfl) .countRead,
    made countClearRequest (fun _ => rfl) .countClear,
    made configSetRequest (fun _ => rfl) .configSet,
    made configGetRequest (fun _ => rfl) (.oneArg (.code rfl)),
    made tagsSetRequest (fun _ => rfl) (.twoArgs (.map (.range 2 0 4095) _) fun _ => .map (.range 2 0 4095) _),
    made restartRequest (fun _ => rfl) (.oneArg (.code rfl)),
    List.forall_mem_nil _⟩

end Sys2Proof.Machine

namespace Sys2Proof.Proofs

open Sys2Proof.Machine Sys2Proof.Safety

/-- Settles O36: every argument list is read by its command's parser, argument by argument, so the parser fails at the first that fails. -/
theorem badArgumentNamesTheFirst : Obligations.BadArgumentNamesTheFirst := by
  unfold Obligations.BadArgumentNamesTheFirst
  intro i code arguments hi s c rest x pos h hbad
  obtain ⟨α, r, made, refuses⟩ := argumentTable_make _ hi
  rw [made s]
  exact congrArg Host.Outcome.next (State.sessionCommand_badArgument r h pos (refuses c.args pos hbad))

end Sys2Proof.Proofs
end

section
/-! PROOF. The Agent's events: CONDITION_EVENT, LINE_CAUSE_GONE, SESSION_EXPIRY (O31). -/

namespace Sys2Proof.Machine

open Sys2Proof.Safety

/-! ### What an entry makes of an event (R162) and of the cause's end (R164) -/

theorem CondEntry.takeEvent_clear {e : CondEntry} (h : e.state = .clear) (lt : Lt) (sessionOpen : Bool) :
    e.takeEvent lt sessionOpen = ⟨.raised, 1, some lt, sessionOpen⟩ := by
  simp only [CondEntry.takeEvent, h]

/-- An event of a condition already standing is only counted. -/
theorem CondEntry.takeEvent_standing {e : CondEntry} (h : e.state ≠ .clear) (lt : Lt) (sessionOpen : Bool) :
    e.takeEvent lt sessionOpen = { e with count := Counter.inc e.count } := by
  cases he : e.state with
  | clear => exact absurd he h
  | raised | acknowledged => simp only [CondEntry.takeEvent, he]

theorem CondEntry.takeCauseGone_raised {e : CondEntry} (h : e.state = .raised) :
    e.takeCauseGone = { e with state := .clear, noticeOwed := false } := by
  simp only [CondEntry.takeCauseGone, h]

theorem CondEntry.takeCauseGone_acknowledged {e : CondEntry} (h : e.state = .acknowledged) :
    e.takeCauseGone = { e with state := .clear } := by
  simp only [CondEntry.takeCauseGone, h]

theorem CondEntry.takeCauseGone_clear {e : CondEntry} (h : e.state = .clear) : e.takeCauseGone = e := by
  simp only [CondEntry.takeCauseGone, h]

/-! ### The three steps (R140, R161) -/

section

variable {s : State} {before after : List Report}

theorem takeReport_nextReport {r : Report} (h : NextReport r before after s) : takeReport r s.reports = some (before ++ after) := by
  obtain ⟨hreports, hbefore⟩ := h
  rw [hreports, takeReport_next r before after hbefore]

/-- The next event of a kind is used up, and changes the kind's entry alone. -/
theorem exec_conditionEvent {k : CondKind} {e : CondEntry} (h : NextReport (.event k) before after s)
    (he : (s.agent.cond k).takeEvent s.lt s.agent.session.isSome = e) :
    exec (.conditionEvent k) s = .next { s with reports := before ++ after, agent := s.agent.setCond k e } := by
  change execConditionEvent k s = _
  simp only [execConditionEvent, takeReport_nextReport h, he]

/-- The next cause-gone report is used up, and changes the entry of LINE_UNLOCKED alone. -/
theorem exec_lineCauseGone {e : CondEntry} (h : NextReport .causeGone before after s)
    (he : (s.agent.cond .lineUnlocked).takeCauseGone = e) :
    exec .lineCauseGone s = .next { s with reports := before ++ after, agent := s.agent.setCond .lineUnlocked e } := by
  change execLineCauseGone s = _
  simp only [execLineCauseGone, takeReport_nextReport h, he]

end

theorem exec_sessionExpiry {s t : State} (h : s.endIfExpired = t) : exec .sessionExpiry s = .next t := congrArg Host.Outcome.next h

end Sys2Proof.Machine

namespace Sys2Proof.Proofs

open Sys2Proof.Machine Sys2Proof.Safety

/-- Settles O31: the report is taken by its entry, whose state decides; the session ends where its deadline is reached. -/
theorem agentEventsTaken : Obligations.AgentEventsTaken := by
  unfold Obligations.AgentEventsTaken
  refine ⟨⟨fun s k before after h => ⟨fun hc => ?_, fun hc => ?_⟩, fun s before after h => ?_⟩,
    fun s => ⟨fun hs => ?_, fun x hs => ⟨fun hd => ?_, fun hd => ?_⟩⟩⟩
  · exact exec_conditionEvent h (CondEntry.takeEvent_clear hc _ _)
  · exact exec_conditionEvent h (CondEntry.takeEvent_standing hc _ _)
  · intro e
    exact ⟨fun he => exec_lineCauseGone h (CondEntry.takeCauseGone_raised he),
      fun he => exec_lineCauseGone h (CondEntry.takeCauseGone_acknowledged he),
      fun he => exec_lineCauseGone h (CondEntry.takeCauseGone_clear he)⟩
  · exact exec_sessionExpiry (State.endIfExpired_none hs)
  · exact exec_sessionExpiry (State.endIfExpired_alive hs hd)
  · exact exec_sessionExpiry (State.endIfExpired_reached hs hd)

end Sys2Proof.Proofs
end

section
/-! PROOF. COND_READ and COND_ACK, executed (O48). -/

namespace Sys2Proof.Machine

open Sys2Proof.Safety

/-! ### What an entry makes of an acknowledgement (R163) -/

theorem CondEntry.acknowledge_lineUnlocked {e : CondEntry} (h : e.state = .raised) :
    e.acknowledge .lineUnlocked = { e with state := .acknowledged, noticeOwed := false } := by
  simp only [CondEntry.acknowledge, h, if_true]

theorem CondEntry.acknowledge_other {e : CondEntry} {k : CondKind} (h : e.state = .raised) (hk : k ≠ .lineUnlocked) :
    e.acknowledge k = { e with state := .clear, noticeOwed := false } := by
  simp only [CondEntry.acknowledge, h, if_neg hk]

theorem CondEntry.acknowledge_unraised {e : CondEntry} (h : e.state ≠ .raised) (k : CondKind) : e.acknowledge k = e := by
  cases he : e.state with
  | raised => exact absurd he h
  | acknowledged | clear => simp only [CondEntry.acknowledge, he]

/-! ### What the two commands answer and leave (R166, R197) -/

/-- The conditions in kind order, as COND_READ reports them (R166). -/
def Agent.condReport (a : Agent) : List Byte := condKinds.flatMap fun k => condBytes k (a.cond k)

/-- The report kind by kind. -/
theorem Agent.condReport_eq (a : Agent) : a.condReport =
    condBytes .lineUnlocked (a.cond .lineUnlocked) ++ condBytes .headerErrors (a.cond .headerErrors)
      ++ condBytes .mediaCongestion (a.cond .mediaCongestion) ++ condBytes .staleDrops (a.cond .staleDrops)
      ++ condBytes .captureLoss (a.cond .captureLoss) ++ condBytes .carouselLate (a.cond .carouselLate)
      ++ condBytes .commandDiscard (a.cond .commandDiscard) ++ condBytes .sequenceGaps (a.cond .sequenceGaps) := by
  simp only [Agent.condReport, condKinds, List.flatMap_cons, List.flatMap_nil, List.append_nil, List.append_assoc]

theorem Agent.condReport_length (a : Agent) : a.condReport.length = 104 := by
  simp only [Agent.condReport_eq, List.length_append, condBytes_length]

section

variable {s : State} {c : Command} {rest : List Cell} {x : Session}

theorem exec_condRead (h : InSequence s 0x61 c rest x) :
    exec .condRead s = .next (executed s s c rest x ⟨.done, .none, s.agent.condReport⟩) :=
  congrArg Host.Outcome.next (State.sessionCommand_act (u := s) condReadRequest h rfl rfl rfl rfl)

/-- COND_ACK answers with what the entry held before, and changes that entry alone. -/
theorem exec_condAck {k : CondKind} {extra : List Byte} {e : CondEntry} (h : InSequence s 0x62 c rest x)
    (ha : c.args = condCode k :: extra) (he : (s.agent.cond k).acknowledge k = e) :
    exec .condAck s = .next (executed s { s with agent := s.agent.setCond k e } c rest x
      ⟨.done, .none, [(s.agent.cond k).state.toByte] ++ counterBytes (s.agent.cond k).count
        ++ optBytes 6 ltBytes (s.agent.cond k).firstLt⟩) := by
  have hp : condAckRequest.parse c.args = .ok k := ha ▸ oneArg_ok readCond _ extra k (readCond_toByte k extra)
  subst he
  exact congrArg Host.Outcome.next (State.sessionCommand_act condAckRequest h hp rfl rfl rfl)

end

end Sys2Proof.Machine

namespace Sys2Proof.Proofs

open Sys2Proof.Machine Sys2Proof.Safety

/-- Settles O48: COND_READ lays the eight entries out one by one; COND_ACK is taken by its entry, whose state and kind decide. -/
theorem conditionCommandsExecuted : Obligations.ConditionCommandsExecuted := by
  unfold Obligations.ConditionCommandsExecuted
  refine fun s c rest x => ⟨fun h => ?read, fun k extra h ha => ?ack⟩
  case read =>
    intro image result
    have himage (k : CondKind) : condBytes k (s.agent.cond k) = image k := by
      simp only [image, condBytes]
      cases (s.agent.cond k).noticeOwed <;> cases (s.agent.cond k).firstLt <;> rfl
    have hresult : s.agent.condReport = result := by
      simp only [Agent.condReport_eq, himage, result]
    rw [← hresult]
    exact ⟨s.agent.condReport_length, exec_condRead h⟩
  case ack =>
    intro e result left
    have acked {e' : CondEntry} (he : e.acknowledge k = e') : exec .condAck s = left e' := by
      have hresult : [e.state.toByte] ++ counterBytes e.count ++ optBytes 6 ltBytes e.firstLt = result := by
        simp only [result]
        cases e.firstLt <;> rfl
      exact (exec_condAck h ha he).trans (by rw [hresult])
    refine ⟨fun hr hk => acked ?_, fun hr hk => acked (CondEntry.acknowledge_other hr hk),
      fun hr => acked (CondEntry.acknowledge_unraised hr k)⟩
    subst hk
    exact CondEntry.acknowledge_lineUnlocked hr

end Sys2Proof.Proofs
end

section
/-! PROOF. One step of the block, by what its queue holds (O1). -/

namespace Sys2Proof.Machine

/-- The command leaves the queue before it runs. -/
theorem step_of_pending_cons {s : State} {c : Instr} {rest : List Instr} (h : s.pending = c :: rest) :
    step s = exec c { s with pending := rest } := by
  rw [step, h]

/-- The block idles (log 1). -/
theorem step_of_pending_nil {s : State} (h : s.pending = []) : step s = .next s := by
  rw [step, h]

end Sys2Proof.Machine

namespace Sys2Proof.Proofs

open Sys2Proof.Machine

/-- Settles O1: the two cases of the queue are the two branches of the step. -/
theorem stepRunsFrontCommand : Obligations.StepRunsFrontCommand := by
  unfold Obligations.StepRunsFrontCommand
  exact ⟨fun _ _ _ h => step_of_pending_cons h, fun _ h => step_of_pending_nil h⟩

end Sys2Proof.Proofs
end
